-- ==== Sys2Proof/Word.lean ====
section
/-! DEFINITION. The word types of the host port and of the packed buffer (R22, R37), and bit strings (R8). -/

namespace Sys2Proof

/-- A host-port word: every register is 32 bits wide (R22). -/
abbrev Word := BitVec 32

/-- One byte of the transmit buffer (R37). -/
abbrev Byte := BitVec 8

/-- A bit string, leftmost bit first (R8). A symbol stream is one too, 1 being carrier on (R13). -/
abbrev BitString := List Bool

end Sys2Proof
end

