-- ==== Sys2Proof/Config.lean ====
section
/-! DEFINITION. The free values the spec leaves open, each a constant without a body, so that a claim holds for
every value of it, and the parameters the spec leaves to the platform, which a definition that reads them takes as an
argument. -/

namespace Sys2Proof

/-- The value a read of a result register or of TXBUF returns while BUSY = 1, as the n-th draw: "drawn freshly at each
read" (R71). The counter is `State.draws` (log 3). -/
opaque Config.freeRead (n : Nat) : Word

/-- The byte TXBUF[i] holds after the hardware reset number `epoch`, until a build writes it: "a model draws every
byte freely at reset" (R37, R290; log 2). -/
opaque Config.txbufAtReset (epoch i : Nat) : Byte

/-- Whether the answer drawn n-th by a radio that no turn was given to is OK: "answered OK or FAIL, freely" (R276;
log 4). The counter is `State.draws`. -/
opaque Config.freeAnswerOk (n : Nat) : Bool

/-- The open parameters of the spec (R7, R60, D2, D32): YRFE_BASE, the address of the host port in the system's map;
MAT_ZONES, the six zone values the receiver knows; MAT_SIDE_ZONES, the two zone values of an "off" request, one per
side. The block itself never needs them (D32); the host's side of it does (log 15). -/
structure Params where
  yrfeBase : Nat
  matZones : List (BitVec 3)
  matSideZones : BitVec 3 × BitVec 3
  deriving DecidableEq, Repr

/-- MAT_ZONES is "a set of six 3-bit values" (D32). -/
def Params.wf (p : Params) : Bool := decide (p.matZones.length = 6 ∧ p.matZones.Nodup)

end Sys2Proof
end

