-- ==== Sys2Proof/Syntax.lean ====
section
/-! DEFINITION. The instructions: one constructor per row of spec/opcode_table.json. -/

namespace Sys2Proof

/-- The formats of the opcode table's rows: a word written to CTRL (R81), a word written to STATUS (R91), the fan
command word of a FAN_SEND (R83). -/
inductive Format where
  | ctrlCmd
  | statusW1c
  | fanCmd
  deriving DecidableEq, Repr

/-- An instruction (R80). The first seven are host writes of CTRL and STATUS; the others are the fan commands the
sequencer takes from the snapshot at a FAN_SEND, one per action of R84 (log 5). `op`, `notx` and `irqEn` are the
stored bits of the CTRL word (R81); `len` is ADDR_LEN and `addr` is ADDR (R83). -/
inductive Instr where
  | ctrlWrite (op : BitVec 2) (notx irqEn : Bool)
  | fanSend (notx irqEn : Bool)
  | matSend (notx irqEn : Bool)
  | reservedOp0 (notx irqEn : Bool)
  | reservedOp3 (notx irqEn : Bool)
  | srst (op : BitVec 2) (notx irqEn : Bool)
  | statusW1c (doneClr ovrClr : Bool)
  | fanSendOff (len : Bool) (addr : BitVec 5)
  | fanSendSpeed1 (len : Bool) (addr : BitVec 5)
  | fanSendSpeed2 (len : Bool) (addr : BitVec 5)
  | fanSendSpeed3 (len : Bool) (addr : BitVec 5)
  | fanSendSpeed4 (len : Bool) (addr : BitVec 5)
  | fanSendSpeed5 (len : Bool) (addr : BitVec 5)
  | fanSendSpeed6 (len : Bool) (addr : BitVec 5)
  | fanSendReverse (len : Bool) (addr : BitVec 5)
  | fanSendToggleDownlight (len : Bool) (addr : BitVec 5)
  | fanSendToggleUplight (len : Bool) (addr : BitVec 5)
  | fanSendDimDownlight (len : Bool) (addr : BitVec 5)
  | fanSendDimUplight (len : Bool) (addr : BitVec 5)
  | fanSendReservedAction (action : BitVec 4) (len : Bool) (addr : BitVec 5)
  deriving DecidableEq, Repr

/-- The format of an instruction's word. -/
def Instr.format : Instr → Format
  | .ctrlWrite _ _ _ => .ctrlCmd
  | .fanSend _ _ => .ctrlCmd
  | .matSend _ _ => .ctrlCmd
  | .reservedOp0 _ _ => .ctrlCmd
  | .reservedOp3 _ _ => .ctrlCmd
  | .srst _ _ _ => .ctrlCmd
  | .statusW1c _ _ => .statusW1c
  | .fanSendOff _ _ => .fanCmd
  | .fanSendSpeed1 _ _ => .fanCmd
  | .fanSendSpeed2 _ _ => .fanCmd
  | .fanSendSpeed3 _ _ => .fanCmd
  | .fanSendSpeed4 _ _ => .fanCmd
  | .fanSendSpeed5 _ _ => .fanCmd
  | .fanSendSpeed6 _ _ => .fanCmd
  | .fanSendReverse _ _ => .fanCmd
  | .fanSendToggleDownlight _ _ => .fanCmd
  | .fanSendToggleUplight _ _ => .fanCmd
  | .fanSendDimDownlight _ _ => .fanCmd
  | .fanSendDimUplight _ _ => .fanCmd
  | .fanSendReservedAction _ _ _ => .fanCmd

end Sys2Proof
end

