-- ==== Sys2Proof/WellFormed.lean ====
section
/-! DEFINITION. When an instruction is one the table has: a reserved action's index is 12 to 15 (R84, R132); every
other operand value is legal (R27, R81, R83). -/

namespace Sys2Proof

/-- The one check of the syntax: the reserved-action row covers the indices 12 to 15 and no other. -/
def Instr.wellFormed : Instr → Bool
  | .fanSendReservedAction action _ _ => decide (12 ≤ action.toNat)
  | _ => true

end Sys2Proof
end

