-- ==== Sys2Proof/Decode.lean ====
section
/-! DEFINITION. The decoder and the encoder of the three instruction formats (R80 to R84, R91, R92). An
instruction is one 32-bit word; which format it has is fixed by where it is taken from, a write of CTRL, a write of
STATUS or the snapshot's fan command. Every word decodes in every format; a port offset that takes no instruction
is rejected by name. -/

namespace Sys2Proof

/-- Why the decoder rejects a host write: the offset is neither CTRL nor STATUS, so the write is no instruction
(R80); the port treats it as a register write (R220). -/
inductive DecodeRefusal where
  | noInstructionAt (offset : Nat)
  deriving DecidableEq, Repr

/-- The offset of CTRL (R22). -/
def ctrlOffset : Nat := 0x00

/-- The offset of STATUS (R22). -/
def statusOffset : Nat := 0x04

/-- The field OP, bits 2:1 of a CTRL word (R81). -/
def ctrlOpOf (w : Word) : BitVec 2 := w.extractLsb' 1 2

/-- A CTRL word, in the order of precedence of R92: SRST, then START with OP, then a plain write. -/
def decodeCtrl (w : Word) : Instr :=
  let notx := w.getLsbD 3
  let irqEn := w.getLsbD 4
  if w.getLsbD 31 then .srst (ctrlOpOf w) notx irqEn
  else if w.getLsbD 0 then
    if ctrlOpOf w = 0b00#2 then .reservedOp0 notx irqEn
    else if ctrlOpOf w = 0b01#2 then .fanSend notx irqEn
    else if ctrlOpOf w = 0b10#2 then .matSend notx irqEn
    else .reservedOp3 notx irqEn
  else .ctrlWrite (ctrlOpOf w) notx irqEn

/-- A STATUS word (R91). -/
def decodeStatus (w : Word) : Instr :=
  .statusW1c (w.getLsbD 1) (w.getLsbD 2)

/-- A fan command word: ACTION selects the row (R83, R84). -/
def decodeFan (w : Word) : Instr :=
  let action : BitVec 4 := w.extractLsb' 8 4
  let len := w.getLsbD 7
  let addr : BitVec 5 := w.extractLsb' 0 5
  if action = 0#4 then .fanSendOff len addr
  else if action = 1#4 then .fanSendSpeed1 len addr
  else if action = 2#4 then .fanSendSpeed2 len addr
  else if action = 3#4 then .fanSendSpeed3 len addr
  else if action = 4#4 then .fanSendSpeed4 len addr
  else if action = 5#4 then .fanSendSpeed5 len addr
  else if action = 6#4 then .fanSendSpeed6 len addr
  else if action = 7#4 then .fanSendReverse len addr
  else if action = 8#4 then .fanSendToggleDownlight len addr
  else if action = 9#4 then .fanSendToggleUplight len addr
  else if action = 10#4 then .fanSendDimDownlight len addr
  else if action = 11#4 then .fanSendDimUplight len addr
  else .fanSendReservedAction action len addr

/-- The instruction a word of the given format stands for: total, since the spec gives every word of a format a
treatment (R93). -/
def decode (f : Format) (w : Word) : Instr :=
  match f with
  | .ctrlCmd => decodeCtrl w
  | .statusW1c => decodeStatus w
  | .fanCmd => decodeFan w

/-- The instruction a legal host write at an offset stands for (R80, R220). -/
def decodePort (offset : Nat) (w : Word) : Except DecodeRefusal Instr :=
  if offset = ctrlOffset then .ok (decode .ctrlCmd w)
  else if offset = statusOffset then .ok (decode .statusW1c w)
  else .error (.noInstructionAt offset)

/-- A single bit as a word. -/
def bitWord (b : Bool) : Word := if b then 1#32 else 0#32

/-- A CTRL word from its fields (R81); the reserved bits are 0. -/
def ctrlWord (srst start : Bool) (op : BitVec 2) (notx irqEn : Bool) : Word :=
  bitWord start ||| (op.setWidth 32 <<< 1) ||| (bitWord notx <<< 3) ||| (bitWord irqEn <<< 4)
    ||| (bitWord srst <<< 31)

/-- A fan command word from its fields (R83); the reserved bits are 0. -/
def fanWord (action : BitVec 4) (len : Bool) (addr : BitVec 5) : Word :=
  addr.setWidth 32 ||| (bitWord len <<< 7) ||| (action.setWidth 32 <<< 8)

/-- The word of an instruction, with every ignored bit 0. -/
def encode : Instr → Word
  | .ctrlWrite op notx irqEn => ctrlWord false false op notx irqEn
  | .fanSend notx irqEn => ctrlWord false true 0b01#2 notx irqEn
  | .matSend notx irqEn => ctrlWord false true 0b10#2 notx irqEn
  | .reservedOp0 notx irqEn => ctrlWord false true 0b00#2 notx irqEn
  | .reservedOp3 notx irqEn => ctrlWord false true 0b11#2 notx irqEn
  | .srst op notx irqEn => ctrlWord true false op notx irqEn
  | .statusW1c doneClr ovrClr => (bitWord doneClr <<< 1) ||| (bitWord ovrClr <<< 2)
  | .fanSendOff len addr => fanWord 0#4 len addr
  | .fanSendSpeed1 len addr => fanWord 1#4 len addr
  | .fanSendSpeed2 len addr => fanWord 2#4 len addr
  | .fanSendSpeed3 len addr => fanWord 3#4 len addr
  | .fanSendSpeed4 len addr => fanWord 4#4 len addr
  | .fanSendSpeed5 len addr => fanWord 5#4 len addr
  | .fanSendSpeed6 len addr => fanWord 6#4 len addr
  | .fanSendReverse len addr => fanWord 7#4 len addr
  | .fanSendToggleDownlight len addr => fanWord 8#4 len addr
  | .fanSendToggleUplight len addr => fanWord 9#4 len addr
  | .fanSendDimDownlight len addr => fanWord 10#4 len addr
  | .fanSendDimUplight len addr => fanWord 11#4 len addr
  | .fanSendReservedAction action len addr => fanWord action len addr

/-- The format of a table row, told by how many bits the table gives it: 32 for a CTRL word (bit 31 is fixed), 16
for a fan command (its highest given bit is 11), 8 for a STATUS word (its highest given bit is 2). A word alone does
not say which register it is written to (log 6). -/
def tableFormat (nbits : Nat) : Format :=
  if nbits ≤ 8 then .statusW1c else if nbits ≤ 16 then .fanCmd else .ctrlCmd

/-- The 32-bit word of a table row's bits; every bit at and above `nbits` is 0. -/
def tableWord (nbits w : Nat) : Word := BitVec.ofNat 32 (w % 2 ^ nbits)

/-- The instruction the decoder reads from a table row's bits. -/
def decodeTableWord (nbits w : Nat) : Option Instr :=
  some (decode (tableFormat nbits) (tableWord nbits w))

end Sys2Proof
end

