-- ==== Sys2Proof/Machine/State.lean ====
section
/-! DEFINITION. The state of YRFE (R20 to R46), its reasons to stop, and its reset (R45, R290). -/

namespace Sys2Proof.Machine

/-- CTRL (R23). START and SRST are action bits and are not stored. -/
structure Ctrl where
  op : BitVec 2
  notx : Bool
  irqEn : Bool
  deriving DecidableEq, Repr

/-- The error codes of STATUS.ERR (R261); 6 and 7 are never produced, so they have no constructor. -/
inductive ErrCode where
  | ok
  | invalidAction
  | invalidZone
  | invalidRepeat
  | txFail
  | illegalOp
  deriving DecidableEq, Repr

/-- The stored fields of STATUS (R24). BUSY and IRQ are functions of the state (R38, R41). -/
structure Status where
  done : Bool
  ovr : Bool
  err : ErrCode
  lastOp : BitVec 2
  deriving DecidableEq, Repr

/-- FAN_CMD (R25). -/
structure FanCmd where
  addr : BitVec 5
  addrLen : Bool
  action : BitVec 4
  deriving DecidableEq, Repr

/-- MAT_CMD (R27). -/
structure MatCmd where
  code : BitVec 5
  zone : BitVec 3
  heat : BitVec 4
  on : Bool
  stayOn : Bool
  preheat : Bool
  deriving DecidableEq, Repr

/-- The read-only result registers (R30 to R36). -/
structure Results where
  field : BitVec 25
  fieldLen : BitVec 5
  symLen : BitVec 16
  byteLen : BitVec 13
  txFreq : BitVec 32
  txRate : BitVec 16
  txMod : BitVec 2
  deriving DecidableEq, Repr

/-- The sequencer state (R38). -/
inductive Seq where
  | idle
  | compute
  | txWait
  deriving DecidableEq, Repr

/-- The command snapshot an accepted START takes (R39). -/
structure Snapshot where
  op : BitVec 2
  notx : Bool
  fanCmd : FanCmd
  fanReps : BitVec 8
  matCmd : MatCmd
  matReps : BitVec 8
  zoneMask : BitVec 8
  deriving DecidableEq, Repr

/-- A transmit request to the radio (R40). -/
structure Request where
  bytes : List Byte
  freq : BitVec 32
  rate : BitVec 16
  modn : BitVec 2
  deriving DecidableEq, Repr

/-- What a run shows the outside (R46): a transmit request handed to the radio, or a value read by the host. -/
inductive Observed where
  | transmit (r : Request)
  | readData (offset : Nat) (value : Word)
  deriving DecidableEq, Repr

/-- An access the host issues: its width in bits, its byte offset from the port's base, and the word written. -/
inductive HostAccess where
  | read (width offset : Nat)
  | write (width offset : Nat) (data : Word)
  deriving DecidableEq, Repr

/-- The radio's answer to a request (R276). -/
inductive RadioAnswer where
  | ok
  | fail
  deriving DecidableEq, Repr

/-- One turn of an agent (R21): a host access, the sequencer's compute step, the radio's answer, or the platform
asserting the reset input (R290). -/
inductive Turn where
  | host (a : HostAccess)
  | sequencer
  | radio (ans : RadioAnswer)
  | hardwareReset
  deriving DecidableEq, Repr

/-- The bytes of TXBUF that a build has written since the last hardware reset, as (index, byte) pairs, indices
strictly rising (R37). An index that is not listed has not been written. -/
abbrev Memory := List Host.Cell

/-- The state of the block (R20), then the model's own fields: what the outside has seen (`history`, R46), the
agents' coming turns (`inputs`, log 1), and the counters of the free values (`draws`, log 3, log 4; `epoch`, log 2).
Every request in `history` is eventually answered: the weak fairness of R276, which `RadioFairness` states. -/
structure State where
  ctrl : Ctrl
  status : Status
  fanCmd : FanCmd
  fanReps : BitVec 8
  matCmd : MatCmd
  matReps : BitVec 8
  zoneMask : BitVec 8
  results : Results
  txbuf : Memory
  seq : Seq
  snap : Option Snapshot
  req : Option Request
  history : List Observed
  inputs : List Turn
  draws : Nat
  epoch : Nat
  deriving DecidableEq, Repr

/-- Why the machine stops. -/
inductive Fault where
  /-- A host access that is not 32 bits wide, not at a multiple of 4 or above 0x1FFF: the host port answers it with a
  bus error and nothing changes (R65); the fault is kept for the rest of the run (R268). Raised by the host's turn
  alone. Safe: the spec names the fault. -/
  | busError (addr : Nat)
  deriving DecidableEq, Repr

/-- Why an instruction has no outcome. -/
inductive Refusal where
  /-- An instruction without a meaning in this model: raised by exec's arm for it. Safe. No arm raises it. -/
  | notModelled (mnemonic : String)
  deriving DecidableEq, Repr

/-- The block right after a hardware reset (R45, R290, R291): every register at its reset value, no snapshot, no
request, nothing of TXBUF written. -/
def State.reset : State where
  ctrl := { op := 0b00#2, notx := false, irqEn := false }
  status := { done := false, ovr := false, err := .ok, lastOp := 0b00#2 }
  fanCmd := { addr := 0#5, addrLen := false, action := 0#4 }
  fanReps := 16#8
  matCmd := { code := 0#5, zone := 0#3, heat := 0#4, on := false, stayOn := false, preheat := false }
  matReps := 3#8
  zoneMask := 0xFF#8
  results := { field := 0#25, fieldLen := 0#5, symLen := 0#16, byteLen := 0#13, txFreq := 0#32,
               txRate := 0#16, txMod := 0#2 }
  txbuf := []
  seq := .idle
  snap := none
  req := none
  history := []
  inputs := []
  draws := 0
  epoch := 0

end Sys2Proof.Machine
end

