-- ==== Sys2Proof/Machine/Operands.lean ====
section
/-! DEFINITION. Bit strings (R8, R9, R11), the operand forms of the commands (R83, R85, R88, R90), and the register
words that hold them (R237). -/

namespace Sys2Proof.Machine

/-- `bin_N(v)`: the N-bit string of v, most significant bit first (R9; log 16). -/
def bin (n v : Nat) : BitString := (List.range n).map fun i => v.testBit (n - 1 - i)

/-- `val(s)`: the number a bit string stands for, its leftmost bit the most significant (R11). -/
def val (s : BitString) : Nat := s.foldl (fun acc b => 2 * acc + b.toNat) 0

/-- `repeat(n, s)` (R9). -/
def rep (n : Nat) (s : BitString) : BitString := (List.replicate n s).flatten

/-- `zeros(n)` (R9). -/
def zeros (n : Nat) : BitString := List.replicate n false

/-- `popcount(s)` (R9). -/
def popcount (s : BitString) : Nat := s.count true

/-- The fan address string: ADDR[3:0] in 4 bits with ADDR_LEN = 0, ADDR[4:0] in 5 bits with ADDR_LEN = 1 (R83,
R131). ADDR[4] is ignored with ADDR_LEN = 0. -/
def addrString (len : Bool) (addr : BitVec 5) : BitString :=
  if len then bin 5 addr.toNat else bin 4 (addr.extractLsb' 0 4).toNat

/-- A flag's bit string, one bit (R85). -/
def flagString (b : Bool) : BitString := [b]

/-- The word a read of CTRL returns (R237); START and SRST read 0. -/
def Ctrl.toWord (c : Ctrl) : Word := ctrlWord false false c.op c.notx c.irqEn

/-- FAN_CMD's fields from a written word (R25, R83). -/
def FanCmd.ofWord (w : Word) : FanCmd where
  addr := w.extractLsb' 0 5
  addrLen := w.getLsbD 7
  action := w.extractLsb' 8 4

/-- The word a read of FAN_CMD returns, its reserved bits 0 (R25, R43). -/
def FanCmd.toWord (c : FanCmd) : Word := fanWord c.action c.addrLen c.addr

/-- MAT_CMD's fields from a written word (R27, R85). -/
def MatCmd.ofWord (w : Word) : MatCmd where
  code := w.extractLsb' 0 5
  zone := w.extractLsb' 8 3
  heat := w.extractLsb' 12 4
  on := w.getLsbD 16
  stayOn := w.getLsbD 17
  preheat := w.getLsbD 18

/-- The word a read of MAT_CMD returns, its reserved bits 0 (R27, R43). -/
def MatCmd.toWord (c : MatCmd) : Word :=
  c.code.setWidth 32 ||| (c.zone.setWidth 32 <<< 8) ||| (c.heat.setWidth 32 <<< 12)
    ||| (bitWord c.on <<< 16) ||| (bitWord c.stayOn <<< 17) ||| (bitWord c.preheat <<< 18)

/-- The 8-bit field of FAN_REP, MAT_REP and ZONE_MASK from a written word (R86). -/
def lowByte (w : Word) : BitVec 8 := w.extractLsb' 0 8

end Sys2Proof.Machine
end

