-- ==== Sys2Proof/Machine/BitPacker.lean ====
section
/-! DEFINITION. The BitPacker (R120 to R122) and its reading back (R124). -/

namespace Sys2Proof.Machine

/-- One output byte: the first eight bits of the string with the place values 128, 64, …, 1, a missing bit being 0
(R120). -/
def packByte (bits : BitString) : Byte :=
  BitVec.ofNat 8 ((List.range 8).foldl (fun b k => b + (bits.getD k false).toNat * 2 ^ (7 - k)) 0)

/-- The loop of R120 over `m` bytes. -/
def packBytes : Nat → BitString → List Byte
  | 0, _ => []
  | m + 1, bits => packByte bits :: packBytes m (bits.drop 8)

/-- PACK: ceil(n / 8) bytes, the last one padded with 0 (R120, R121). -/
def pack (bits : BitString) : List Byte := packBytes ((bits.length + 7) / 8) bits

/-- A byte's bits, most significant first. -/
def byteBits (b : Byte) : BitString := bin 8 b.toNat

/-- Reading a buffer back most significant bit first (R124). -/
def unpack (bytes : List Byte) : BitString := bytes.flatMap byteBits

end Sys2Proof.Machine
end

