-- ==== Sys2Proof/Machine/Ops.lean ====
section
/-! DEFINITION. The named operations over the registers, TXBUF and the sequencer that every meaning shares. The
block takes no traps (R260): `complete` is the one way an operation ends, with or without an error, and there is
nothing to return from (R272). -/

namespace Sys2Proof.Machine

/-- The byte a build wrote at an index, or none where no build has written since the hardware reset (R37). -/
def Memory.read? (m : Memory) (a : Nat) : Option Byte :=
  match m with
  | [] => none
  | (i, b) :: rest => if i = a then some b else Memory.read? rest a

/-- Writing one byte, keeping the indices strictly rising. -/
def Memory.write (m : Memory) (a : Nat) (b : Byte) : Memory :=
  match m with
  | [] => [(a, b)]
  | (i, c) :: rest =>
    if a < i then (a, b) :: (i, c) :: rest
    else if a = i then (a, b) :: rest
    else (i, c) :: Memory.write rest a b

/-- Writing a list of bytes from an index on. -/
def Memory.writeBytes (m : Memory) (a : Nat) (bytes : List Byte) : Memory :=
  match bytes with
  | [] => m
  | b :: rest => Memory.writeBytes (m.write a b) (a + 1) rest

/-- The size of TXBUF, TXBUF_BYTES (R37). -/
def txbufBytes : Nat := 4096

/-- The indices of a memory are strictly rising, at least `lo`, and inside TXBUF. -/
def Memory.wfFrom (lo : Nat) (m : Memory) : Bool :=
  match m with
  | [] => true
  | (i, _) :: rest => decide (lo ≤ i) && decide (i < txbufBytes) && Memory.wfFrom (i + 1) rest

/-- The canonical form of TXBUF: strictly rising indices below 4096. An unlisted index reads as "not written", which
no entry equals. -/
def Memory.wf (m : Memory) : Bool := Memory.wfFrom 0 m

/-- TXBUF[i]: the byte the last build wrote there, or the byte drawn at the hardware reset (R37; log 2). -/
def State.txbufByte (s : State) (i : Nat) : Byte :=
  match s.txbuf.read? i with
  | some b => b
  | none => Config.txbufAtReset s.epoch i

/-- TXBUF[0 .. n-1]. -/
def State.txbufPrefix (s : State) (n : Nat) : List Byte := (List.range n).map s.txbufByte

def State.setCtrl (s : State) (v : Ctrl) : State := { s with ctrl := v }
def State.setStatus (s : State) (v : Status) : State := { s with status := v }
def State.setFanCmd (s : State) (v : FanCmd) : State := { s with fanCmd := v }
def State.setFanReps (s : State) (v : BitVec 8) : State := { s with fanReps := v }
def State.setMatCmd (s : State) (v : MatCmd) : State := { s with matCmd := v }
def State.setMatReps (s : State) (v : BitVec 8) : State := { s with matReps := v }
def State.setZoneMask (s : State) (v : BitVec 8) : State := { s with zoneMask := v }
def State.setResults (s : State) (v : Results) : State := { s with results := v }
def State.setTxbuf (s : State) (v : Memory) : State := { s with txbuf := v }
def State.setSeq (s : State) (v : Seq) : State := { s with seq := v }
def State.setSnap (s : State) (v : Option Snapshot) : State := { s with snap := v }
def State.setReq (s : State) (v : Option Request) : State := { s with req := v }
def State.setHistory (s : State) (v : List Observed) : State := { s with history := v }
def State.setInputs (s : State) (v : List Turn) : State := { s with inputs := v }
def State.setDraws (s : State) (v : Nat) : State := { s with draws := v }

/-- Appends one event to the history (R46, R275). -/
def State.record (s : State) (e : Observed) : State := s.setHistory (s.history ++ [e])

/-- The plain part of every CTRL write: OP, NOTX and IRQ_EN are stored, in every sequencer state (R222). -/
def storeCtrl (op : BitVec 2) (notx irqEn : Bool) (s : State) : State :=
  s.setCtrl { op := op, notx := notx, irqEn := irqEn }

/-- Sets the sticky OVR (R224). -/
def setOvr (s : State) : State := s.setStatus { s.status with ovr := true }

/-- The snapshot START takes of the live registers (R223, R39). -/
def State.snapshot (s : State) (op : BitVec 2) : Snapshot where
  op := op
  notx := s.ctrl.notx
  fanCmd := s.fanCmd
  fanReps := s.fanReps
  matCmd := s.matCmd
  matReps := s.matReps
  zoneMask := s.zoneMask

/-- START(op) (R223). -/
def start (op : BitVec 2) (s : State) : State :=
  ((s.setSnap (some (s.snapshot op))).setStatus
    { s.status with done := false, err := .ok, lastOp := op }).setSeq .compute

/-- A START request: accepted in IDLE (R223), otherwise dropped with OVR set (R224). -/
def requestStart (op : BitVec 2) (s : State) : State :=
  if s.seq = .idle then start op s else setOvr s

/-- Every register field at its reset value, SNAP without a value, REQ absent, SEQ idle; TXBUF, and the model's own
fields, unchanged (R233, R45, R292). -/
def softReset (s : State) : State :=
  { State.reset with
    txbuf := s.txbuf, history := s.history, inputs := s.inputs, draws := s.draws, epoch := s.epoch }

/-- complete(err), the end of every accepted operation (R232, R260). -/
def complete (err : ErrCode) (s : State) : State :=
  (s.setSeq .idle).setStatus { s.status with err := err, done := true }

/-- BUILD, the commit of a successful compute step (R229): the packed bytes go to TXBUF from index 0 on, the other
bytes keep their values, and the result registers are written. -/
def build (f : BitString) (n : Nat) (syms : BitString) (freq : BitVec 32) (rate : BitVec 16)
    (modn : BitVec 2) (s : State) : State :=
  (s.setTxbuf (s.txbuf.writeBytes 0 (pack syms))).setResults
    { field := BitVec.ofNat 25 (val f)
      fieldLen := BitVec.ofNat 5 n
      symLen := BitVec.ofNat 16 syms.length
      byteLen := BitVec.ofNat 13 (pack syms).length
      txFreq := freq
      txRate := rate
      txMod := modn }

/-- The request ISSUE hands over: TXBUF[0 .. BYTELEN-1] with TXFREQ, TXRATE, TXMOD (R230, R40). -/
def State.request (s : State) : Request where
  bytes := s.txbufPrefix s.results.byteLen.toNat
  freq := s.results.txFreq
  rate := s.results.txRate
  modn := s.results.txMod

/-- ISSUE, the hand-over to the radio (R230, R275). -/
def issue (s : State) : State :=
  ((s.setReq (some s.request)).record (.transmit s.request)).setSeq .txWait

/-- The end of a build: a dry run completes with OK, otherwise the request is issued (R228). -/
def finish (notx : Bool) (s : State) : State := if notx then complete .ok s else issue s

end Sys2Proof.Machine
end

