-- ==== Sys2Proof/Machine/Flags.lean ====
section
/-! DEFINITION. The status flags and the interrupt line as functions of the state (R24, R41, R237, R261, R270). -/

namespace Sys2Proof.Machine

/-- STATUS.BUSY: SEQ ≠ IDLE (R38). -/
def State.busy (s : State) : Bool := decide (s.seq ≠ .idle)

/-- STATUS.IRQ, the level of the irq output: DONE AND IRQ_EN (R41, R270). -/
def State.irq (s : State) : Bool := s.status.done && s.ctrl.irqEn

/-- code(err) (R261). -/
def ErrCode.code : ErrCode → BitVec 3
  | .ok => 0#3
  | .invalidAction => 1#3
  | .invalidZone => 2#3
  | .invalidRepeat => 3#3
  | .txFail => 4#3
  | .illegalOp => 5#3

/-- The word a read of STATUS returns (R237). -/
def State.statusWord (s : State) : Word :=
  (s.status.lastOp.setWidth 32 <<< 8) ||| (s.status.err.code.setWidth 32 <<< 4) ||| (bitWord s.irq <<< 3)
    ||| (bitWord s.status.ovr <<< 2) ||| (bitWord s.status.done <<< 1) ||| bitWord s.busy

end Sys2Proof.Machine
end

