-- ==== Sys2Proof/Machine/Control.lean ====
section
/-! DEFINITION. The meanings of the host's CTRL and STATUS writes (R221 to R224, R227, R233, R234). -/

namespace Sys2Proof.Machine

/-- CTRL_WRITE (R222). -/
def execCtrlWrite (op : BitVec 2) (notx irqEn : Bool) (s : State) : Host.Outcome State Fault Refusal :=
  .next (storeCtrl op notx irqEn s)

/-- FAN_SEND: START with OP = 0b01 (R223, R224); its compute step is R225. -/
def execFanSend (notx irqEn : Bool) (s : State) : Host.Outcome State Fault Refusal :=
  .next (requestStart 0b01#2 (storeCtrl 0b01#2 notx irqEn s))

/-- MAT_SEND: START with OP = 0b10 (R223, R224); its compute step is R226. -/
def execMatSend (notx irqEn : Bool) (s : State) : Host.Outcome State Fault Refusal :=
  .next (requestStart 0b10#2 (storeCtrl 0b10#2 notx irqEn s))

/-- RESERVED_OP0: START with OP = 0b00, accepted (R223, R224); its compute step is R227. -/
def execReservedOp0 (notx irqEn : Bool) (s : State) : Host.Outcome State Fault Refusal :=
  .next (requestStart 0b00#2 (storeCtrl 0b00#2 notx irqEn s))

/-- RESERVED_OP3: START with OP = 0b11, accepted (R223, R224); its compute step is R227. -/
def execReservedOp3 (notx irqEn : Bool) (s : State) : Host.Outcome State Fault Refusal :=
  .next (requestStart 0b11#2 (storeCtrl 0b11#2 notx irqEn s))

/-- SRST: performed in IDLE, where it overrides the rest of the word (R233); otherwise OVR is set and the word's
OP, NOTX and IRQ_EN are stored (R224). -/
def execSrst (op : BitVec 2) (notx irqEn : Bool) (s : State) : Host.Outcome State Fault Refusal :=
  .next (if s.seq = .idle then softReset s else setOvr (storeCtrl op notx irqEn s))

/-- STATUS_W1C: a 1 clears DONE or OVR, in every sequencer state (R234). -/
def execStatusW1c (doneClr ovrClr : Bool) (s : State) : Host.Outcome State Fault Refusal :=
  .next (s.setStatus
    { s.status with done := s.status.done && !doneClr, ovr := s.status.ovr && !ovrClr })

end Sys2Proof.Machine
end

