-- ==== Sys2Proof/Machine/FanEncoder.lean ====
section
/-! DEFINITION. The fan protocol encoder and its command codes (R130 to R146). -/

namespace Sys2Proof.Machine

/-- off (R133). -/
def codeOff : BitVec 8 := 0b00000100#8
/-- speed-1 (R134). -/
def codeSpeed1 : BitVec 8 := 0b00010000#8
/-- speed-2 (R135). -/
def codeSpeed2 : BitVec 8 := 0b00010100#8
/-- speed-3 (R136). -/
def codeSpeed3 : BitVec 8 := 0b00100000#8
/-- speed-4 (R137). -/
def codeSpeed4 : BitVec 8 := 0b00110000#8
/-- speed-5 (R138). -/
def codeSpeed5 : BitVec 8 := 0b01000100#8
/-- speed-6 (R139). -/
def codeSpeed6 : BitVec 8 := 0b01000000#8
/-- reverse (R140). -/
def codeReverse : BitVec 8 := 0b00001000#8
/-- toggle-downlight (R141). -/
def codeToggleDownlight : BitVec 8 := 0b00000010#8
/-- toggle-uplight (R142). -/
def codeToggleUplight : BitVec 8 := 0b00010010#8
/-- dim-downlight (R143). -/
def codeDimDownlight : BitVec 8 := 0b10000010#8
/-- dim-uplight (R144). -/
def codeDimUplight : BitVec 8 := 0b10010010#8

/-- CODE(ACTION), for the twelve indices of R84; 12 to 15 name no action (R132). -/
def fanCode (action : BitVec 4) : Option (BitVec 8) :=
  match action.toNat with
  | 0 => some codeOff
  | 1 => some codeSpeed1
  | 2 => some codeSpeed2
  | 3 => some codeSpeed3
  | 4 => some codeSpeed4
  | 5 => some codeSpeed5
  | 6 => some codeSpeed6
  | 7 => some codeReverse
  | 8 => some codeToggleDownlight
  | 9 => some codeToggleUplight
  | 10 => some codeDimDownlight
  | 11 => some codeDimUplight
  | _ => none

/-- The address field A: a 4-bit address gets the prefix "1" (R88, R131). -/
def addrField (a : BitString) : BitString := if a.length = 4 then true :: a else a

/-- The fan field of an address string and a code: A ++ code (R87, R130). -/
def fanField (a : BitString) (code : BitVec 8) : BitString := addrField a ++ bin 8 code.toNat

/-- FAN_ENCODE (R130): none is InvalidAction (R132). -/
def fanEncode (a : BitString) (action : BitVec 4) : Option BitString :=
  (fanCode action).map (fanField a)

end Sys2Proof.Machine
end

