-- ==== Sys2Proof/Machine/MatEncoder.lean ====
section
/-! DEFINITION. The mattress protocol encoder and its checksum (R180 to R187). -/

namespace Sys2Proof.Machine

/-- MAT_PAYLOAD, 19 bits in construction order (R180, R90). -/
def matPayload (m : MatCmd) : BitString :=
  bin 3 m.zone.toNat ++ bin 5 m.code.toNat ++ zeros 3 ++ bin 4 m.heat.toNat ++ zeros 1
    ++ flagString m.stayOn ++ flagString m.preheat ++ flagString m.on

/-- CHECKSUM: the count of 1 bits in 6 bits (R181). -/
def checksum (payload : BitString) : BitString := bin 6 (popcount payload)

/-- MAT_ENCODE, 25 bits (R182). The encoder rejects nothing (R185) and does not look at the on-bit (R187). -/
def matEncode (m : MatCmd) : BitString := checksum (matPayload m) ++ matPayload m

end Sys2Proof.Machine
end

