-- ==== Sys2Proof/Machine/FanModulator.lean ====
section
/-! DEFINITION. The symbol mapping of both protocols (R160), the fan modulator and its transmission parameters
(R161 to R165). -/

namespace Sys2Proof.Machine

/-- SYM: "0" is "100", "1" is "101" (R160). -/
def sym (b : Bool) : BitString := [true, false, b]

/-- MOD3 (R160). -/
def mod3 (s : BitString) : BitString := s.flatMap sym

/-- The fan guard, 36 off-symbols (R161). -/
def fanGuard : BitString := zeros 36

/-- FAN_MODULATE (R162). -/
def fanModulate (field : BitString) (r : Nat) : BitString :=
  fanGuard ++ rep r (mod3 field ++ fanGuard)

/-- The fan carrier, 303.875 MHz (R165). -/
def fanFreq : BitVec 32 := 303875000#32

/-- The fan symbol rate (R165). -/
def fanRate : BitVec 16 := 3000#16

/-- ASK/OOK, the one modulation the block produces (R36, R165, R205). -/
def askOok : BitVec 2 := 1#2

end Sys2Proof.Machine
end

