-- ==== Sys2Proof/Machine/MatModulator.lean ====
section
/-! DEFINITION. The mattress modulator and its transmission parameters (R200 to R205). -/

namespace Sys2Proof.Machine

/-- The preamble "111111000000" (R201). -/
def matPreamble : BitString := List.replicate 6 true ++ zeros 6

/-- MAT_MODULATE: the field is consumed reversed (R200, R202). -/
def matModulate (field : BitString) (r : Nat) : BitString :=
  rep r (matPreamble ++ mod3 field.reverse)

/-- The mattress carrier, 418 MHz (R205). -/
def matFreq : BitVec 32 := 418000000#32

/-- The mattress symbol rate (R205). -/
def matRate : BitVec 16 := 1600#16

end Sys2Proof.Machine
end

