-- ==== Sys2Proof/Machine/Sequencer.lean ====
section
/-! DEFINITION. The compute steps of the sequencer (R225 to R230) and the radio's answer (R231). A compute step is
enabled when SEQ = COMPUTE and a snapshot is held; where it is not enabled nothing happens (log 8, log 11). -/

namespace Sys2Proof.Machine

/-- The fan compute step (R225) for the encoder's answer `f`, none being InvalidAction. It reads the snapshot only;
the repeat count is checked first (R264, R269). -/
def fanCompute (f : Option BitString) (s : State) : State :=
  match s.seq, s.snap with
  | .compute, some sn =>
    if sn.op = 0b01#2 then
      if sn.fanReps = 0#8 then complete .invalidRepeat s
      else
        match f with
        | none => complete .invalidAction s
        | some field =>
          finish sn.notx (build field 13 (fanModulate field sn.fanReps.toNat) fanFreq fanRate askOok s)
    else s
  | _, _ => s

/-- Bit ZONE of the snapshot's ZONE_MASK (R29). -/
def Snapshot.zoneAccepted (sn : Snapshot) : Bool := sn.zoneMask.getLsbD sn.matCmd.zone.toNat

/-- The mattress compute step (R226). -/
def matCompute (s : State) : State :=
  match s.seq, s.snap with
  | .compute, some sn =>
    if sn.op = 0b10#2 then
      if sn.matReps = 0#8 then complete .invalidRepeat s
      else if sn.zoneAccepted then
        finish sn.notx
          (build (matEncode sn.matCmd) 25 (matModulate (matEncode sn.matCmd) sn.matReps.toNat) matFreq matRate
            askOok s)
      else complete .invalidZone s
    else s
  | _, _ => s

/-- The compute step of a reserved OP (R227, R265). -/
def reservedCompute (s : State) : State :=
  match s.seq with
  | .compute => complete .illegalOp s
  | _ => s

/-- The error code of a radio's answer (R231). -/
def RadioAnswer.err : RadioAnswer → ErrCode
  | .ok => .ok
  | .fail => .txFail

/-- RADIO_ANSWER, enabled when SEQ = TX_WAIT (R231); no answer is accepted otherwise (R290). -/
def radioAnswer (ans : RadioAnswer) (s : State) : State :=
  match s.seq with
  | .txWait => complete ans.err (s.setReq none)
  | _ => s

end Sys2Proof.Machine
end

