-- ==== Sys2Proof/Machine/FanActions.lean ====
section
/-! DEFINITION. The meanings of the fan actions (R132 to R144): the compute step of a FAN_SEND whose snapshot holds
the action. The address operand is the snapshot's ADDR_LEN and ADDR (log 5). -/

namespace Sys2Proof.Machine

/-- FAN_SEND.off (R133). -/
def execFanSendOff (len : Bool) (addr : BitVec 5) (s : State) : Host.Outcome State Fault Refusal :=
  .next (fanCompute (some (fanField (addrString len addr) codeOff)) s)

/-- FAN_SEND.speed-1 (R134). -/
def execFanSendSpeed1 (len : Bool) (addr : BitVec 5) (s : State) : Host.Outcome State Fault Refusal :=
  .next (fanCompute (some (fanField (addrString len addr) codeSpeed1)) s)

/-- FAN_SEND.speed-2 (R135). -/
def execFanSendSpeed2 (len : Bool) (addr : BitVec 5) (s : State) : Host.Outcome State Fault Refusal :=
  .next (fanCompute (some (fanField (addrString len addr) codeSpeed2)) s)

/-- FAN_SEND.speed-3 (R136). -/
def execFanSendSpeed3 (len : Bool) (addr : BitVec 5) (s : State) : Host.Outcome State Fault Refusal :=
  .next (fanCompute (some (fanField (addrString len addr) codeSpeed3)) s)

/-- FAN_SEND.speed-4 (R137). -/
def execFanSendSpeed4 (len : Bool) (addr : BitVec 5) (s : State) : Host.Outcome State Fault Refusal :=
  .next (fanCompute (some (fanField (addrString len addr) codeSpeed4)) s)

/-- FAN_SEND.speed-5 (R138). -/
def execFanSendSpeed5 (len : Bool) (addr : BitVec 5) (s : State) : Host.Outcome State Fault Refusal :=
  .next (fanCompute (some (fanField (addrString len addr) codeSpeed5)) s)

/-- FAN_SEND.speed-6 (R139). -/
def execFanSendSpeed6 (len : Bool) (addr : BitVec 5) (s : State) : Host.Outcome State Fault Refusal :=
  .next (fanCompute (some (fanField (addrString len addr) codeSpeed6)) s)

/-- FAN_SEND.reverse (R140). -/
def execFanSendReverse (len : Bool) (addr : BitVec 5) (s : State) : Host.Outcome State Fault Refusal :=
  .next (fanCompute (some (fanField (addrString len addr) codeReverse)) s)

/-- FAN_SEND.toggle-downlight (R141). -/
def execFanSendToggleDownlight (len : Bool) (addr : BitVec 5) (s : State) : Host.Outcome State Fault Refusal :=
  .next (fanCompute (some (fanField (addrString len addr) codeToggleDownlight)) s)

/-- FAN_SEND.toggle-uplight (R142). -/
def execFanSendToggleUplight (len : Bool) (addr : BitVec 5) (s : State) : Host.Outcome State Fault Refusal :=
  .next (fanCompute (some (fanField (addrString len addr) codeToggleUplight)) s)

/-- FAN_SEND.dim-downlight (R143). -/
def execFanSendDimDownlight (len : Bool) (addr : BitVec 5) (s : State) : Host.Outcome State Fault Refusal :=
  .next (fanCompute (some (fanField (addrString len addr) codeDimDownlight)) s)

/-- FAN_SEND.dim-uplight (R144). -/
def execFanSendDimUplight (len : Bool) (addr : BitVec 5) (s : State) : Host.Outcome State Fault Refusal :=
  .next (fanCompute (some (fanField (addrString len addr) codeDimUplight)) s)

/-- FAN_SEND.reserved_action: the encoder answers InvalidAction whatever the index and the address (R132). -/
def execFanSendReservedAction (_action : BitVec 4) (_len : Bool) (_addr : BitVec 5) (s : State) :
    Host.Outcome State Fault Refusal :=
  .next (fanCompute none s)

end Sys2Proof.Machine
end

