-- ==== Sys2Proof/Machine/Dispatch.lean ====
section
/-! DEFINITION. What each instruction does: one arm per row of the opcode table. -/

namespace Sys2Proof.Machine

def exec (i : Instr) (s : State) : Host.Outcome State Fault Refusal :=
  match i with
  | .ctrlWrite op notx irqEn => Sys2Proof.Machine.execCtrlWrite op notx irqEn s
  | .fanSend notx irqEn => Sys2Proof.Machine.execFanSend notx irqEn s
  | .matSend notx irqEn => Sys2Proof.Machine.execMatSend notx irqEn s
  | .reservedOp0 notx irqEn => Sys2Proof.Machine.execReservedOp0 notx irqEn s
  | .reservedOp3 notx irqEn => Sys2Proof.Machine.execReservedOp3 notx irqEn s
  | .srst op notx irqEn => Sys2Proof.Machine.execSrst op notx irqEn s
  | .statusW1c doneClr ovrClr => Sys2Proof.Machine.execStatusW1c doneClr ovrClr s
  | .fanSendOff len addr => Sys2Proof.Machine.execFanSendOff len addr s
  | .fanSendSpeed1 len addr => Sys2Proof.Machine.execFanSendSpeed1 len addr s
  | .fanSendSpeed2 len addr => Sys2Proof.Machine.execFanSendSpeed2 len addr s
  | .fanSendSpeed3 len addr => Sys2Proof.Machine.execFanSendSpeed3 len addr s
  | .fanSendSpeed4 len addr => Sys2Proof.Machine.execFanSendSpeed4 len addr s
  | .fanSendSpeed5 len addr => Sys2Proof.Machine.execFanSendSpeed5 len addr s
  | .fanSendSpeed6 len addr => Sys2Proof.Machine.execFanSendSpeed6 len addr s
  | .fanSendReverse len addr => Sys2Proof.Machine.execFanSendReverse len addr s
  | .fanSendToggleDownlight len addr => Sys2Proof.Machine.execFanSendToggleDownlight len addr s
  | .fanSendToggleUplight len addr => Sys2Proof.Machine.execFanSendToggleUplight len addr s
  | .fanSendDimDownlight len addr => Sys2Proof.Machine.execFanSendDimDownlight len addr s
  | .fanSendDimUplight len addr => Sys2Proof.Machine.execFanSendDimUplight len addr s
  | .fanSendReservedAction action len addr => Sys2Proof.Machine.execFanSendReservedAction action len addr s

end Sys2Proof.Machine
end

