-- ==== Sys2Proof/Machine/HostPort.lean ====
section
/-! DEFINITION. The host port (R60 to R74): legality of an access, register and window reads, register writes. -/

namespace Sys2Proof.Machine

/-- The bus error of an access, or none where it is legal: 32 bits, at a multiple of 4, at most 0x1FFF (R63, R65). -/
def portFault (width offset : Nat) : Option Fault :=
  if width = 32 ∧ offset % 4 = 0 ∧ offset ≤ 0x1FFF then none else some (.busError offset)

/-- The result registers' offsets (R22). -/
def isResultOffset (offset : Nat) : Bool := decide (0x20 ≤ offset ∧ offset ≤ 0x38)

/-- The TXBUF window (R60, R62). -/
def isWindowOffset (offset : Nat) : Bool := decide (0x1000 ≤ offset ∧ offset ≤ 0x1FFF)

/-- The little-endian word of TXBUF[4k .. 4k+3] (R66, R238). -/
def State.windowWord (s : State) (k : Nat) : Word :=
  (s.txbufByte (4 * k)).setWidth 32 ||| ((s.txbufByte (4 * k + 1)).setWidth 32 <<< 8)
    ||| ((s.txbufByte (4 * k + 2)).setWidth 32 <<< 16) ||| ((s.txbufByte (4 * k + 3)).setWidth 32 <<< 24)

/-- The word at an offset as the state holds it (R237, R238); a reserved offset reads 0 (R64). -/
def State.storedWord (s : State) (offset : Nat) : Word :=
  if isWindowOffset offset then s.windowWord ((offset - 0x1000) / 4)
  else match offset with
    | 0x00 => s.ctrl.toWord
    | 0x04 => s.statusWord
    | 0x08 => s.fanCmd.toWord
    | 0x0C => s.fanReps.setWidth 32
    | 0x10 => s.matCmd.toWord
    | 0x14 => s.matReps.setWidth 32
    | 0x18 => s.zoneMask.setWidth 32
    | 0x20 => s.results.field.setWidth 32
    | 0x24 => s.results.fieldLen.setWidth 32
    | 0x28 => s.results.symLen.setWidth 32
    | 0x2C => s.results.byteLen.setWidth 32
    | 0x30 => s.results.txFreq
    | 0x34 => s.results.txRate.setWidth 32
    | 0x38 => s.results.txMod.setWidth 32
    | _ => 0#32

/-- A read whose value is unspecified: a result register or TXBUF while BUSY = 1 (R71). -/
def State.readIsFree (s : State) (offset : Nat) : Bool :=
  s.busy && (isResultOffset offset || isWindowOffset offset)

/-- A legal read: its value is recorded (R46), and nothing of the block changes (R68). A free value is drawn
freshly (R71; log 3). -/
def readPort (offset : Nat) (s : State) : State :=
  if s.readIsFree offset then
    (s.record (.readData offset (Config.freeRead s.draws))).setDraws (s.draws + 1)
  else s.record (.readData offset (s.storedWord offset))

/-- A legal write at an offset that takes no instruction: a command register stores its defined fields in every
sequencer state (R235); a result register, a reserved offset and the TXBUF window ignore it (R236, R64, R62). -/
def writeReg (offset : Nat) (w : Word) (s : State) : State :=
  match offset with
  | 0x08 => s.setFanCmd (FanCmd.ofWord w)
  | 0x0C => s.setFanReps (lowByte w)
  | 0x10 => s.setMatCmd (MatCmd.ofWord w)
  | 0x14 => s.setMatReps (lowByte w)
  | 0x18 => s.setZoneMask (lowByte w)
  | _ => s

end Sys2Proof.Machine
end

