-- ==== Sys2Proof/Machine/Agents.lean ====
section
/-! DEFINITION. One turn of each agent (R21): the host, the sequencer, the radio, the platform's reset. -/

namespace Sys2Proof.Machine

/-- The host's turn (R220, R237, R65). A write of CTRL or STATUS is the instruction its word decodes to. -/
def hostTurn (a : HostAccess) (s : State) : Host.Outcome State Fault Refusal :=
  match a with
  | .read width offset =>
    match portFault width offset with
    | some e => .fault e
    | none => .next (readPort offset s)
  | .write width offset w =>
    match portFault width offset with
    | some e => .fault e
    | none =>
      match decodePort offset w with
      | .ok i => exec i s
      | .error _ => .next (writeReg offset w s)

/-- The fan instruction the snapshot holds: its fan command word, decoded (R73, R225; log 5). -/
def Snapshot.fanInstr (sn : Snapshot) : Instr := decode .fanCmd sn.fanCmd.toWord

/-- The sequencer's turn: the compute step of the snapshot's OP, enabled when SEQ = COMPUTE (R225 to R227). -/
def sequencerTurn (s : State) : Host.Outcome State Fault Refusal :=
  match s.seq, s.snap with
  | .compute, some sn =>
    if sn.op = 0b01#2 then exec sn.fanInstr s
    else if sn.op = 0b10#2 then .next (matCompute s)
    else .next (reservedCompute s)
  | _, _ => .next s

/-- The hardware reset (R290): the reset state, with every byte of TXBUF drawn anew, whatever was pending forgotten,
and the model's own fields kept (log 9, log 10). -/
def hardwareReset (s : State) : State :=
  { State.reset with
    history := s.history, inputs := s.inputs, draws := s.draws, epoch := s.epoch + 1 }

/-- The answer a radio draws by itself, the n-th of the free values (R276; log 4). -/
def drawnAnswer (n : Nat) : RadioAnswer := if Config.freeAnswerOk n then .ok else .fail

/-- The turn taken where the outside gives none (log 1): a pending request is answered, with an answer drawn freely,
so that no run leaves the radio hanging (the weak fairness of R276); otherwise it is the sequencer's turn. -/
def quietTurn (s : State) : Host.Outcome State Fault Refusal :=
  match s.seq with
  | .txWait => .next (radioAnswer (drawnAnswer s.draws) (s.setDraws (s.draws + 1)))
  | _ => sequencerTurn s

/-- One turn of an agent. -/
def takeTurn (t : Turn) (s : State) : Host.Outcome State Fault Refusal :=
  match t with
  | .host a => hostTurn a s
  | .sequencer => sequencerTurn s
  | .radio ans => .next (radioAnswer ans s)
  | .hardwareReset => .next (hardwareReset s)

end Sys2Proof.Machine
end

