-- ==== Sys2Proof/Machine/Step.lean ====
section
/-! DEFINITION. One step: the next turn of `inputs`; where the outside gives none, the
turn of the agent the block waits for (log 1). -/

namespace Sys2Proof.Machine

/-- One step of the block and its surroundings (R21). With no turn given, the sequencer takes its compute step or the
radio answers, whichever is enabled (R276), and otherwise the block waits (R291). -/
def step (s : State) : Host.Outcome State Fault Refusal :=
  match s.inputs with
  | [] => quietTurn s
  | t :: rest => takeTurn t (s.setInputs rest)

/-- `s` with a table row's word as the very next instruction (log 6): a CTRL or STATUS word is the host's next write;
a fan command word is held by FAN_CMD and started as a FAN_SEND, so that the sequencer's next turn runs it. -/
def State.withFetchWord (s : State) (nbits w : Nat) : State :=
  match tableFormat nbits with
  | .ctrlCmd => s.setInputs (.host (.write 32 ctrlOffset (tableWord nbits w)) :: s.inputs)
  | .statusW1c => s.setInputs (.host (.write 32 statusOffset (tableWord nbits w)) :: s.inputs)
  | .fanCmd =>
    (start 0b01#2 ((s.setFanCmd (FanCmd.ofWord (tableWord nbits w))).setReq none)).setInputs
      (.sequencer :: s.inputs)

end Sys2Proof.Machine
end

