-- ==== Sys2Proof/Machine/HostProgram.lean ====
section
/-! DEFINITION. The host program notation and its pseudo-instructions (R95, R96), and the host's use of the spec's open
parameters (R7, R293): what a written host program issues on the host port. The block itself does not see the notation
or the parameters. -/

namespace Sys2Proof.Machine

/-- The action names of R84, in its order. -/
inductive FanAction where
  | off
  | speed1
  | speed2
  | speed3
  | speed4
  | speed5
  | speed6
  | reverse
  | toggleDownlight
  | toggleUplight
  | dimDownlight
  | dimUplight
  deriving DecidableEq, Repr

/-- The ACTION index of a name (R84). -/
def FanAction.index : FanAction → BitVec 4
  | .off => 0#4
  | .speed1 => 1#4
  | .speed2 => 2#4
  | .speed3 => 3#4
  | .speed4 => 4#4
  | .speed5 => 5#4
  | .speed6 => 6#4
  | .reverse => 7#4
  | .toggleDownlight => 8#4
  | .toggleUplight => 9#4
  | .dimDownlight => 10#4
  | .dimUplight => 11#4

/-- A line of a host program (R95, R96). `wait` is a POLL of STATUS that makes the given number of reads: how many a
loop makes depends on the other agents' turns (log 17). `answer` is @RADIO. -/
inductive HostLine where
  | wr (offset : Nat) (w : Word)
  | rd (offset : Nat)
  | rdbuf (k : Nat)
  | answer (ans : RadioAnswer)
  | fanSet (addr : BitString) (action : FanAction)
  | fanRep (n : Nat)
  | matSet (code zone : BitString) (heat : Nat) (on stayOn preheat : Bool)
  | matRep (n : Nat)
  | zones (zs : List BitString)
  | fanSend (notx irq : Bool)
  | matSend (notx irq : Bool)
  | wait (reads : Nat)
  | ack
  | srst
  deriving DecidableEq, Repr

/-- `WR` at an offset (R95). -/
def wrTurn (offset : Nat) (w : Word) : Turn := .host (.write 32 offset w)

/-- `RD` at an offset (R95). -/
def rdTurn (offset : Nat) : Turn := .host (.read 32 offset)

/-- The CTRL word of a send: 0x03 or 0x05, with 0x08 for notx and 0x10 for irq (R96). -/
def sendWord (base : Nat) (notx irq : Bool) : Word :=
  BitVec.ofNat 32 (base + (if notx then 0x08 else 0) + (if irq then 0x10 else 0))

/-- The turns a line expands to; none where an assembler refuses the line (R96). -/
def HostLine.expand : HostLine → Option (List Turn)
  | .wr offset w => some [wrTurn offset w]
  | .rd offset => some [rdTurn offset]
  | .rdbuf k => some [rdTurn (0x1000 + 4 * k)]
  | .answer ans => some [.radio ans]
  | .fanSet addr action =>
    if addr.length = 4 then some [wrTurn 0x08 (BitVec.ofNat 32 ((action.index.toNat <<< 8) + val addr))]
    else if addr.length = 5 then
      some [wrTurn 0x08 (BitVec.ofNat 32 ((action.index.toNat <<< 8) + (1 <<< 7) + val addr))]
    else none
  | .fanRep n => some [wrTurn 0x0C (BitVec.ofNat 32 n)]
  | .matSet code zone heat on stayOn preheat =>
    if code.length = 5 ∧ zone.length = 3 ∧ heat ≤ 15 then
      some [wrTurn 0x10 (BitVec.ofNat 32 ((preheat.toNat <<< 18) + (stayOn.toNat <<< 17) + (on.toNat <<< 16)
        + (heat <<< 12) + (val zone <<< 8) + val code))]
    else none
  | .matRep n => some [wrTurn 0x14 (BitVec.ofNat 32 n)]
  | .zones zs => some [wrTurn 0x18 (BitVec.ofNat 32 ((zs.map fun z => 1 <<< val z).sum))]
  | .fanSend notx irq => some [wrTurn 0x00 (sendWord 0x03 notx irq)]
  | .matSend notx irq => some [wrTurn 0x00 (sendWord 0x05 notx irq)]
  | .wait reads => some (List.replicate reads (rdTurn 0x04))
  | .ack => some [wrTurn 0x04 0x06#32]
  | .srst => some [wrTurn 0x00 0x80000000#32]

/-- A host program's turns, none where a line is refused. -/
def expandProgram : List HostLine → Option (List Turn)
  | [] => some []
  | l :: rest =>
    match l.expand, expandProgram rest with
    | some ts, some more => some (ts ++ more)
    | _, _ => none

/-- The turns of a run of a host program: the host's accesses and the radio's answers as the program writes them, with
the sequencer's turns at any places among them (R95, R70). -/
def turnsRun (program : List HostLine) (turns : List Turn) : Bool :=
  decide (expandProgram program = some (turns.filter fun t => decide (t ≠ .sequencer)))

/-- The system address of a port offset: the port stands at YRFE_BASE (R60, D2). -/
def systemAddress (p : Params) (offset : Nat) : Nat := p.yrfeBase + offset

/-- The port offset of a system address, none below YRFE_BASE (R60, D2). -/
def portOffset (p : Params) (address : Nat) : Option Nat :=
  if p.yrfeBase ≤ address then some (address - p.yrfeBase) else none

/-- The line that loads MAT_ZONES into ZONE_MASK, for a host that wants zone validation (R293 step 2, D32). -/
def zonesLine (p : Params) : HostLine := .zones (p.matZones.map fun z => bin 3 z.toNat)

/-- Steps 2 and 3 of the boot requirements, in the order the rule lists them: ZONE_MASK if validation is wanted, FAN_REP
and MAT_REP if values other than the defaults are (R293). -/
def bootLines (p : Params) (validate : Bool) (fanReps matReps : Option Nat) : List HostLine :=
  (if validate then [zonesLine p] else []) ++ fanReps.toList.map .fanRep ++ matReps.toList.map .matRep

/-- One side of an "off" request: a mattress command with everything but the zone and the pad code 0, sent and waited
for (program P5). -/
def offSideLines (code : BitString) (zone : BitVec 3) (ans : RadioAnswer) (reads : Nat) : List HostLine :=
  [.matSet code (bin 3 zone.toNat) 0 false false false, .matSend false false, .answer ans, .wait reads]

/-- The "off" request of a pad code: one command for each of MAT_SIDE_ZONES (program P5, D32). -/
def offLines (p : Params) (code : BitString) (ans : RadioAnswer × RadioAnswer) (reads : Nat × Nat) :
    List HostLine :=
  offSideLines code p.matSideZones.1 ans.1 reads.1 ++ offSideLines code p.matSideZones.2 ans.2 reads.2

end Sys2Proof.Machine
end

