-- ==== Sys2Proof/Machine/Sequential.lean ====
section
/-! DEFINITION. The sequential forms of the packer and of the two framers (R123, R166, R206): one symbol a step.
They are not architectural (R42) and no step uses them; they are here to be shown equal to the functions the
compute step applies. -/

namespace Sys2Proof.Machine

/-- The sequential packer's state: accumulator, bit count, and the bytes written so far (R123). -/
structure PackState where
  acc : Byte
  count : Nat
  out : List Byte
  deriving DecidableEq, Repr

/-- "both 0 at the start of a build" (R123). -/
def PackState.init : PackState := { acc := 0#8, count := 0, out := [] }

/-- On one symbol (R123). -/
def PackState.onSymbol (p : PackState) (s : Bool) : PackState :=
  let acc := p.acc ||| (BitVec.ofNat 8 s.toNat <<< (7 - p.count))
  if p.count + 1 = 8 then { acc := 0#8, count := 0, out := p.out ++ [acc] }
  else { acc := acc, count := p.count + 1, out := p.out }

/-- At the end (R123). -/
def PackState.atEnd (p : PackState) : List Byte := if 0 < p.count then p.out ++ [p.acc] else p.out

/-- The sequential packer (R123). -/
def seqPack (bits : BitString) : List Byte := (bits.foldl PackState.onSymbol PackState.init).atEnd

/-- The fan framer's phases (R166). -/
inductive FanPhase where
  | lead
  | pay
  | trail
  deriving DecidableEq, Repr

/-- The fan framer's state: guard count g, bit index b, group position p, repeat count r (R166). The range the rule gives
each is the one it has where it is read: g is 36 in PAY and b is 13 in TRAIL, as the pseudocode leaves them, and there
neither is read. -/
structure FanFramer where
  phase : FanPhase
  g : Nat
  b : Nat
  p : Nat
  r : Nat
  deriving DecidableEq, Repr

/-- "start" (R166): LEAD with g = 0. The values of b, p and r here are the model's choice (DESIGN CHOICE, log 18): the
rule gives them none, and the end of LEAD sets all three before any is read. -/
def FanFramer.start : FanFramer := { phase := .lead, g := 0, b := 0, p := 0, r := 1 }

/-- The symbol of group position p for a field bit (R166, R206). -/
def groupSymbol (p : Nat) (bit : Bool) : Bool := if p = 0 then true else if p = 1 then false else bit

/-- One step of the fan framer: the symbol it emits and its next state, none where it stops (R166). -/
def FanFramer.next (field : BitString) (reps : Nat) (f : FanFramer) : Bool × Option FanFramer :=
  match f.phase with
  | .lead =>
    (false, if f.g + 1 = 36 then some { phase := .pay, g := f.g + 1, b := 0, p := 0, r := 1 }
      else some { f with g := f.g + 1 })
  | .pay =>
    (groupSymbol f.p (field.getD f.b false),
      if f.p + 1 = 3 then
        if f.b + 1 = 13 then some { phase := .trail, g := 0, b := f.b + 1, p := 0, r := f.r }
        else some { f with p := 0, b := f.b + 1 }
      else some { f with p := f.p + 1 })
  | .trail =>
    (false, if f.g + 1 = 36 then
        if f.r = reps then none else some { phase := .pay, g := f.g + 1, b := 0, p := 0, r := f.r + 1 }
      else some { f with g := f.g + 1 })

/-- The symbols a framer emits in at most `n` steps. -/
def framerRun {α : Type} (next : α → Bool × Option α) (n : Nat) (state : Option α) : BitString :=
  match n, state with
  | 0, _ => []
  | _, none => []
  | n + 1, some f => (next f).1 :: framerRun next n (next f).2

/-- The symbols of the fan framer's first `n` steps (R166). -/
def seqFan (field : BitString) (reps n : Nat) : BitString :=
  framerRun (FanFramer.next field reps) n (some FanFramer.start)

/-- The mattress framer's phases (R206). -/
inductive MatPhase where
  | pre
  | pay
  deriving DecidableEq, Repr

/-- The mattress framer's state: preamble position q, reversed bit index b, group position p, repeat count r
(R206). The range the rule gives each is the one it has where it is read: q is 12 in PAY and b is 25 in a later PRE, as
the pseudocode leaves them, and there neither is read. -/
structure MatFramer where
  phase : MatPhase
  q : Nat
  b : Nat
  p : Nat
  r : Nat
  deriving DecidableEq, Repr

/-- "start" (R206): PRE with q = 0 and r = 1. The values of b and p here are the model's choice (DESIGN CHOICE, log 18):
the rule gives them none, and the end of PRE sets both before either is read. -/
def MatFramer.start : MatFramer := { phase := .pre, q := 0, b := 0, p := 0, r := 1 }

/-- One step of the mattress framer (R206). -/
def MatFramer.next (field : BitString) (reps : Nat) (f : MatFramer) : Bool × Option MatFramer :=
  match f.phase with
  | .pre =>
    (decide (f.q < 6), if f.q + 1 = 12 then some { phase := .pay, q := f.q + 1, b := 0, p := 0, r := f.r }
      else some { f with q := f.q + 1 })
  | .pay =>
    (groupSymbol f.p (field.getD (24 - f.b) false),
      if f.p + 1 = 3 then
        if f.b + 1 = 25 then
          if f.r = reps then none else some { phase := .pre, q := 0, b := f.b + 1, p := 0, r := f.r + 1 }
        else some { f with p := 0, b := f.b + 1 }
      else some { f with p := f.p + 1 })

/-- The symbols of the mattress framer's first `n` steps (R206). -/
def seqMat (field : BitString) (reps n : Nat) : BitString :=
  framerRun (MatFramer.next field reps) n (some MatFramer.start)

end Sys2Proof.Machine
end

