-- ==== Sys2Proof/Safety.lean ====
section
/-! DEFINITION. What the block keeps true of its state, and what a legal host access is, in the terms the claims
use. -/

namespace Sys2Proof.Machine

/-- A host access the port answers (R63). -/
def HostAccess.legal : HostAccess → Bool
  | .read width offset => decide (width = 32 ∧ offset % 4 = 0 ∧ offset ≤ 0x1FFF)
  | .write width offset _ => decide (width = 32 ∧ offset % 4 = 0 ∧ offset ≤ 0x1FFF)

/-- A turn that cannot end a run: every turn but an illegal host access (R65, R268). -/
def Turn.legal : Turn → Bool
  | .host a => a.legal
  | _ => true

/-- The request of `s` is answered within as many steps as `s` has turns left, and one more. -/
def State.Answered (s : State) : Prop :=
  ∃ n t, n ≤ s.inputs.length + 1 ∧ Sys2Proof.core.run n s = .next t ∧ t.seq = .idle

/-- The weak fairness of the radio, which a model assumes: "a pending request is eventually answered" (R276). Here it
holds of the machine, since the radio answers by itself where no turn is given (log 4); a bus error ends a run before
its answer, so the turns left are legal ones. -/
def RadioFairness : Prop :=
  ∀ s : State, s.seq = .txWait → (∀ a ∈ s.inputs, a.legal = true) → s.Answered

/-- Every index below BYTELEN has been written by a build (R37, R71). -/
def State.BufferHeld (s : State) : Prop :=
  ∀ i, i < s.results.byteLen.toNat → ∃ b, s.txbuf.read? i = some b

/-- The result registers hold no build (all 0, R45), a fan build (R30 to R36, R163) or a mattress build (R203),
of some repeat count from 1 to 255. -/
def Results.Sound (r : Results) : Prop :=
  r = State.reset.results ∨
  ∃ reps, 1 ≤ reps ∧ reps ≤ 255 ∧
    ((r.fieldLen = 13#5 ∧ r.field.toNat < 2 ^ 13 ∧ r.symLen.toNat = 36 + 75 * reps ∧
        r.byteLen.toNat = (36 + 75 * reps + 7) / 8 ∧ r.txFreq = 303875000#32 ∧ r.txRate = 3000#16 ∧
        r.txMod = 1#2) ∨
     (r.fieldLen = 25#5 ∧ r.field.toNat < 2 ^ 23 ∧ r.symLen.toNat = 87 * reps ∧
        r.byteLen.toNat = (87 * reps + 7) / 8 ∧ r.txFreq = 418000000#32 ∧ r.txRate = 1600#16 ∧
        r.txMod = 1#2))

/-- While an operation runs, the snapshot is held, LAST_OP is its OP, and DONE and ERR are clear (R39, R223, R234). -/
def State.OperationSound (s : State) : Prop :=
  s.seq ≠ .idle →
    s.status.done = false ∧ s.status.err = .ok ∧ ∃ sn, s.snap = some sn ∧ sn.op = s.status.lastOp

/-- REQ is present exactly in TX_WAIT, and then it is what the result registers and TXBUF hold, issued by a send
with NOTX = 0 (R40, R74, R275). -/
def State.RequestSound (s : State) : Prop :=
  (s.seq = .txWait ↔ s.req ≠ none) ∧
  (∀ r, s.req = some r → r = s.request ∧ s.results ≠ State.reset.results ∧
    ∃ sn, s.snap = some sn ∧ sn.notx = false ∧ (sn.op = 0b01#2 ∨ sn.op = 0b10#2))

/-- The invariant of the block: TXBUF is in its canonical form and holds the last build, the result registers hold
the values of a build or of reset, and the operation and the request are as the sequencer state says. -/
structure State.Inv (s : State) : Prop where
  bufferWf : s.txbuf.wf = true
  bufferHeld : s.BufferHeld
  resultsSound : s.results.Sound
  operationSound : s.OperationSound
  requestSound : s.RequestSound

/-- The four START instructions with the OP each selects (R82). -/
def startRows (notx irqEn : Bool) : List (Instr × BitVec 2) :=
  [(.fanSend notx irqEn, 0b01#2), (.matSend notx irqEn, 0b10#2), (.reservedOp0 notx irqEn, 0b00#2),
   (.reservedOp3 notx irqEn, 0b11#2)]

/-- The twelve fan action instructions with the code of each (R84). -/
def fanRows (len : Bool) (addr : BitVec 5) : List (Instr × BitVec 8) :=
  [(.fanSendOff len addr, 0x04#8),
   (.fanSendSpeed1 len addr, 0x10#8),
   (.fanSendSpeed2 len addr, 0x14#8),
   (.fanSendSpeed3 len addr, 0x20#8),
   (.fanSendSpeed4 len addr, 0x30#8),
   (.fanSendSpeed5 len addr, 0x44#8),
   (.fanSendSpeed6 len addr, 0x40#8),
   (.fanSendReverse len addr, 0x08#8),
   (.fanSendToggleDownlight len addr, 0x02#8),
   (.fanSendToggleUplight len addr, 0x12#8),
   (.fanSendDimDownlight len addr, 0x82#8),
   (.fanSendDimUplight len addr, 0x92#8)]

/-- The thirteen fan command instructions: the twelve actions and the reserved one. -/
def fanInstrs (action : BitVec 4) (len : Bool) (addr : BitVec 5) : List Instr :=
  (fanRows len addr).map Prod.fst ++ [.fanSendReservedAction action len addr]

/-- The compute step of an operation is enabled with the snapshot `sn` (R225). -/
def State.Enabled (s : State) (sn : Snapshot) : Prop := s.seq = .compute ∧ s.snap = some sn

/-- The stream of a fan action: the encoder's field, modulated `reps` times (R225). -/
def fanStream (len : Bool) (addr : BitVec 5) (code : BitVec 8) (reps : BitVec 8) : BitString :=
  fanModulate (fanField (addrString len addr) code) reps.toNat

/-- The stream of a mattress command (R226). -/
def matStream (m : MatCmd) (reps : BitVec 8) : BitString := matModulate (matEncode m) reps.toNat

/-- The end of an operation that passed its checks: a dry run is OK, otherwise the radio says (R228, R231). -/
def sentErr (notx : Bool) (ans : RadioAnswer) : ErrCode :=
  if notx then .ok else if ans = .ok then .ok else .txFail

/-- The one code the operation started by the CTRL word `w` ends with, in the order of R269. -/
def expectedErr (s : State) (w : Word) (ans : RadioAnswer) : ErrCode :=
  let op : BitVec 2 := w.extractLsb' 1 2
  if op = 0b01#2 then
    if s.fanReps = 0#8 then .invalidRepeat
    else if 12 ≤ s.fanCmd.action.toNat then .invalidAction
    else sentErr (w.getLsbD 3) ans
  else if op = 0b10#2 then
    if s.matReps = 0#8 then .invalidRepeat
    else if s.zoneMask.getLsbD s.matCmd.zone.toNat = false then .invalidZone
    else sentErr (w.getLsbD 3) ans
  else .illegalOp

end Sys2Proof.Machine
end

