-- ==== Sys2Proof/Certificates/Slice0/Obligations.lean ====
section
/-! DEFINITION. The statements for the provers. Each docstring names the rule of spec/ it formalises. -/

open Sys2Proof Sys2Proof.Machine

/-- Decode and encode agree on every well-formed instruction (R81, R83, R91, R92). -/
def Obligations.DecodeOfEncodeIsTheInstruction : Prop :=
  ∀ i : Instr, i.wellFormed = true → decode i.format (encode i) = i

/-- The bits the formats ignore do not change the decoded instruction (R81, R83, R91). -/
def Obligations.IgnoredBitsDoNotChangeTheInstruction : Prop :=
  ∀ w : Word,
    decode .ctrlCmd (w &&& 0x8000001F#32) = decode .ctrlCmd w ∧
    decode .statusW1c (w &&& 0x6#32) = decode .statusW1c w ∧
    decode .fanCmd (w &&& 0xF9F#32) = decode .fanCmd w

/-- Every word of every format is some legal instruction of that format, and the encoder gives the word back without
its ignored bits; an SRST word's START is one of them (R92, R93). -/
def Obligations.EveryWordIsALegalInstruction : Prop :=
  ∀ (f : Format) (w : Word),
    (decode f w).wellFormed = true ∧ (decode f w).format = f ∧
    encode (decode f w) =
      match f with
      | .ctrlCmd => if w.getLsbD 31 then w &&& 0x8000001E#32 else w &&& 0x1F#32
      | .statusW1c => w &&& 0x6#32
      | .fanCmd => w &&& 0xF9F#32

/-- Words written out from the formats decode to the instruction they stand for (R81, R83, R91, R96). -/
def Obligations.WordsFromTheSpecDecode : Prop :=
  decode .ctrlCmd 0x0000001E#32 = .ctrlWrite 0b11#2 true true ∧
  decode .ctrlCmd 0x00000003#32 = .fanSend false false ∧
  decode .ctrlCmd 0x0000000D#32 = .matSend true false ∧
  decode .ctrlCmd 0x80000001#32 = .srst 0b00#2 false false ∧
  decode .statusW1c 0x00000006#32 = .statusW1c true true ∧
  decode .fanCmd 0x0000030A#32 = .fanSendSpeed3 false 0b01010#5 ∧
  decode .fanCmd 0x00000B8D#32 = .fanSendDimUplight true 0b01101#5 ∧
  decode .fanCmd 0x00000C0A#32 = .fanSendReservedAction 12#4 false 0b01010#5

/-- A step runs the decoded instruction: the host's next write of CTRL or STATUS is the instruction its word decodes
to, and the sequencer's turn at a FAN_SEND is the instruction the snapshot's fan command decodes to, with the turn
taken off `inputs` (R80, R220, R225). With no turn given such a compute step is taken all the same (log 1). -/
def Obligations.StepRunsTheDecodedInstruction : Prop :=
  ∀ (s : State) (rest : List Turn),
    (∀ w, s.inputs = .host (.write 32 0x00 w) :: rest →
      step s = exec (decode .ctrlCmd w) { s with inputs := rest }) ∧
    (∀ w, s.inputs = .host (.write 32 0x04 w) :: rest →
      step s = exec (decode .statusW1c w) { s with inputs := rest }) ∧
    (∀ sn, s.inputs = .sequencer :: rest → s.Enabled sn → sn.op = 0b01#2 →
      step s = exec (decode .fanCmd sn.fanCmd.toWord) { s with inputs := rest }) ∧
    (∀ sn, s.inputs = [] → s.Enabled sn → sn.op = 0b01#2 →
      step s = exec (decode .fanCmd sn.fanCmd.toWord) s)

/-- The instruction a fan snapshot runs is the row its ACTION selects, with its ADDR_LEN and ADDR (R83, R84). -/
def Obligations.SnapshotSelectsItsActionRow : Prop :=
  ∀ (c : FanCmd),
    (∀ k (h : k < (fanRows c.addrLen c.addr).length), c.action.toNat = k →
      decode .fanCmd c.toWord = ((fanRows c.addrLen c.addr)[k]).1) ∧
    (12 ≤ c.action.toNat → decode .fanCmd c.toWord = .fanSendReservedAction c.action c.addrLen c.addr)

/-- A CTRL write stores its fields and takes the first request of R221's order: SRST, else START, else none. -/
def Obligations.CtrlWriteTakesTheFirstRequest : Prop :=
  ∀ (s : State) (rest : List Turn) (w : Word), s.inputs = .host (.write 32 0x00 w) :: rest →
    let u : State := { s with
      inputs := rest
      ctrl := { op := w.extractLsb' 1 2, notx := w.getLsbD 3, irqEn := w.getLsbD 4 } }
    let overrun : State := { u with status := { u.status with ovr := true } }
    step s = .next (
      if w.getLsbD 31 then
        if s.seq = .idle then softReset u else overrun
      else if w.getLsbD 0 then
        if s.seq = .idle then start (w.extractLsb' 1 2) u else overrun
      else u)

/-- What reset leaves (R291), and that the block then waits for host writes. -/
def Obligations.ResetLeavesTheStatedValues : Prop :=
  State.reset.seq = .idle ∧ State.reset.busy = false ∧ State.reset.status.done = false ∧
  State.reset.status.ovr = false ∧ State.reset.status.err.code = 0#3 ∧ State.reset.ctrl.irqEn = false ∧
  State.reset.irq = false ∧ State.reset.ctrl.op = 0b00#2 ∧ State.reset.fanReps = 16#8 ∧ State.reset.matReps = 3#8 ∧
  State.reset.zoneMask = 0xFF#8 ∧ step State.reset = .next State.reset

/-- A hardware reset gives every register its reset value, whatever was going on, and draws every byte of TXBUF
afresh (R290, R45). That the model's own fields survive it is the model's choice (log 9, log 10). -/
def Obligations.HardwareResetForgetsTheOperation : Prop :=
  ∀ (s : State) (rest : List Turn), s.inputs = .hardwareReset :: rest →
    ∃ t, step s = .next t ∧
      t.ctrl = State.reset.ctrl ∧ t.status = State.reset.status ∧ t.fanCmd = State.reset.fanCmd ∧
      t.fanReps = 16#8 ∧ t.matCmd = State.reset.matCmd ∧ t.matReps = 3#8 ∧ t.zoneMask = 0xFF#8 ∧
      t.results = State.reset.results ∧ t.seq = .idle ∧ t.snap = none ∧ t.req = none ∧ t.irq = false ∧
      (∀ i, t.txbufByte i = Config.txbufAtReset (s.epoch + 1) i) ∧
      t.history = s.history ∧ t.inputs = rest

/-- SOFT_RESET in IDLE: every register field takes its reset value, SEQ stays IDLE, TXBUF is unchanged (R233). That the
model's own fields, the history, the turns and the two counters, survive it is the model's choice (log 1, log 2, log 3,
log 9). -/
def Obligations.SoftResetInIdle : Prop :=
  ∀ (op : BitVec 2) (notx irqEn : Bool) (s : State), s.seq = .idle →
    exec (.srst op notx irqEn) s = .next
      { ctrl := { op := 0b00#2, notx := false, irqEn := false }
        status := { done := false, ovr := false, err := .ok, lastOp := 0b00#2 }
        fanCmd := { addr := 0#5, addrLen := false, action := 0#4 }
        fanReps := 16#8
        matCmd := { code := 0#5, zone := 0#3, heat := 0#4, on := false, stayOn := false, preheat := false }
        matReps := 3#8
        zoneMask := 0xFF#8
        results := { field := 0#25, fieldLen := 0#5, symLen := 0#16, byteLen := 0#13, txFreq := 0#32,
                     txRate := 0#16, txMod := 0#2 }
        txbuf := s.txbuf
        seq := .idle
        snap := none
        req := none
        history := s.history
        inputs := s.inputs
        draws := s.draws
        epoch := s.epoch }

/-- CTRL_WRITE stores OP, NOTX and IRQ_EN in every sequencer state and does nothing else; the irq level follows
IRQ_EN at once (R222, R41). -/
def Obligations.CtrlWriteStoresThreeFields : Prop :=
  ∀ (op : BitVec 2) (notx irqEn : Bool) (s : State),
    ∃ t, exec (.ctrlWrite op notx irqEn) s = .next t ∧
      t = { s with ctrl := { op := op, notx := notx, irqEn := irqEn } } ∧
      t.irq = (s.status.done && irqEn)

/-- START in IDLE is accepted whatever its OP: the snapshot is taken, DONE and ERR are cleared, LAST_OP is OP, OVR is
unchanged and BUSY reads 1 (R223). -/
def Obligations.StartInIdleIsAccepted : Prop :=
  ∀ (notx irqEn : Bool) (i : Instr) (op : BitVec 2) (s : State), (i, op) ∈ startRows notx irqEn → s.seq = .idle →
    ∃ t, exec i s = .next t ∧ t.busy = true ∧ t.irq = false ∧
      t = { s with
        ctrl := { op := op, notx := notx, irqEn := irqEn }
        status := { s.status with done := false, err := .ok, lastOp := op }
        seq := .compute
        snap := some
          { op := op, notx := notx, fanCmd := s.fanCmd, fanReps := s.fanReps, matCmd := s.matCmd,
            matReps := s.matReps, zoneMask := s.zoneMask } }

/-- START or SRST while BUSY starts and resets nothing: OVR is set and the word's OP, NOTX and IRQ_EN are stored
(R224). -/
def Obligations.RequestWhileBusySetsOverrun : Prop :=
  ∀ (notx irqEn : Bool) (i : Instr) (op : BitVec 2) (s : State),
    ((i, op) ∈ startRows notx irqEn ∨ i = .srst op notx irqEn) → s.seq ≠ .idle →
    exec i s = .next { s with
      ctrl := { op := op, notx := notx, irqEn := irqEn }
      status := { s.status with ovr := true } }

/-- A STATUS write clears DONE where bit 1 is set and OVR where bit 2 is set, in every sequencer state, and changes
nothing else (R234). -/
def Obligations.StatusWriteClearsDoneAndOvr : Prop :=
  ∀ (doneClr ovrClr : Bool) (s : State),
    exec (.statusW1c doneClr ovrClr) s = .next { s with
      status := { s.status with
        done := if doneClr then false else s.status.done
        ovr := if ovrClr then false else s.status.ovr } }

/-- The field each of the twelve actions encodes, and no field for the indices 12 to 15 (R130 to R144). -/
def Obligations.FanFieldOfEveryAction : Prop :=
  ∀ (a : BitString), (a.length = 4 ∨ a.length = 5) →
    let A := if a.length = 4 then [true] ++ a else a
    let O := false
    let I := true
    (List.range 16).map (fun k => fanEncode a (BitVec.ofNat 4 k)) =
      [ some (A ++ [O, O, O, O, O, I, O, O]), some (A ++ [O, O, O, I, O, O, O, O]),
        some (A ++ [O, O, O, I, O, I, O, O]), some (A ++ [O, O, I, O, O, O, O, O]),
        some (A ++ [O, O, I, I, O, O, O, O]), some (A ++ [O, I, O, O, O, I, O, O]),
        some (A ++ [O, I, O, O, O, O, O, O]), some (A ++ [O, O, O, O, I, O, O, O]),
        some (A ++ [O, O, O, O, O, O, I, O]), some (A ++ [O, O, O, I, O, O, I, O]),
        some (A ++ [I, O, O, O, O, O, I, O]), some (A ++ [I, O, O, I, O, O, I, O]),
        none, none, none, none ]

/-- The result registers after an enabled fan action with a repeat count of at least 1 (R145, R163, R165, R225). The
field is that of the instruction's own operands, whatever fan command the snapshot holds, which R225 does not say: it
rests on the model's reading of the fan rows (log 5). -/
def Obligations.FanActionWritesTheResults : Prop :=
  ∀ (len : Bool) (addr : BitVec 5) (i : Instr) (code : BitVec 8) (s : State) (sn : Snapshot),
    (i, code) ∈ fanRows len addr → s.Enabled sn → sn.op = 0b01#2 → sn.fanReps ≠ 0#8 →
    ∃ t, exec i s = .next t ∧
      t.results.field.toNat = (if len then addr.toNat else 16 + addr.toNat % 16) * 256 + code.toNat ∧
      t.results.fieldLen = 13#5 ∧
      t.results.symLen.toNat = 36 + 75 * sn.fanReps.toNat ∧
      t.results.byteLen.toNat = (36 + 75 * sn.fanReps.toNat + 7) / 8 ∧
      t.results.txFreq = 303875000#32 ∧ t.results.txRate = 3000#16 ∧ t.results.txMod = 1#2

/-- TXBUF after an enabled fan action: the packed stream from index 0 on, every other byte as before (R229). The stream
is that of the instruction's own operands, whatever fan command the snapshot holds, which R225 does not say: it rests on
the model's reading of the fan rows (log 5). -/
def Obligations.FanActionWritesThePackedStream : Prop :=
  ∀ (len : Bool) (addr : BitVec 5) (i : Instr) (code : BitVec 8) (s : State) (sn : Snapshot),
    (i, code) ∈ fanRows len addr → s.Enabled sn → sn.op = 0b01#2 → sn.fanReps ≠ 0#8 →
    ∃ t, exec i s = .next t ∧
      (∀ j (h : j < (pack (fanStream len addr code sn.fanReps)).length),
        t.txbufByte j = (pack (fanStream len addr code sn.fanReps))[j]) ∧
      (∀ j, (pack (fanStream len addr code sn.fanReps)).length ≤ j → t.txbufByte j = s.txbufByte j)

/-- How an enabled fan action ends: a dry run completes with OK and sends nothing, otherwise the packed stream is
handed to the radio and BUSY stays 1 (R228, R230, R232). The stream is that of the instruction's own operands, whatever
fan command the snapshot holds, which those rules do not say: it rests on the model's reading of the fan rows
(log 5). -/
def Obligations.FanActionCompletesOrIssues : Prop :=
  ∀ (len : Bool) (addr : BitVec 5) (i : Instr) (code : BitVec 8) (s : State) (sn : Snapshot),
    (i, code) ∈ fanRows len addr → s.Enabled sn → sn.op = 0b01#2 → sn.fanReps ≠ 0#8 →
    ∃ t, exec i s = .next t ∧
      (sn.notx = true → t.seq = .idle ∧ t.status = { s.status with err := .ok, done := true } ∧
        t.history = s.history ∧ t.req = s.req) ∧
      (sn.notx = false → t.seq = .txWait ∧ t.status = s.status ∧
        ∃ r : Request, r.bytes = pack (fanStream len addr code sn.fanReps) ∧ r.freq = 303875000#32 ∧
          r.rate = 3000#16 ∧ r.modn = 1#2 ∧ t.req = some r ∧ t.history = s.history ++ [.transmit r])

/-- A repeat count of 0 is rejected before any other check, for every fan instruction and for the mattress: nothing is
built or sent (R264, R269). That the fan clause holds of the instruction, whatever fan command the snapshot holds, rests
on the model's reading of the fan rows (log 5). -/
def Obligations.RepeatCountZeroIsRejected : Prop :=
  (∀ (action : BitVec 4) (len : Bool) (addr : BitVec 5) (i : Instr) (s : State) (sn : Snapshot),
    i ∈ fanInstrs action len addr → s.Enabled sn → sn.op = 0b01#2 → sn.fanReps = 0#8 →
    exec i s = .next { s with
      seq := .idle
      status := { s.status with err := .invalidRepeat, done := true } }) ∧
  (∀ (s : State) (sn : Snapshot) (rest : List Turn), s.inputs = .sequencer :: rest → s.Enabled sn →
    sn.op = 0b10#2 → sn.matReps = 0#8 →
    step s = .next { s with
      inputs := rest
      seq := .idle
      status := { s.status with err := .invalidRepeat, done := true } })

/-- A reserved action with a repeat count of at least 1 completes with INVALID_ACTION, nothing built or sent: the
instruction whatever its operands and whatever action the snapshot holds, which rests on the model's reading of the
fan rows (log 5), and the compute step whose snapshot holds an action of 12 to 15 (R132, R262). -/
def Obligations.ReservedActionCompletesWithInvalidAction : Prop :=
  ∀ (action : BitVec 4) (len : Bool) (addr : BitVec 5) (s : State) (sn : Snapshot),
    s.Enabled sn → sn.op = 0b01#2 → sn.fanReps ≠ 0#8 →
    exec (.fanSendReservedAction action len addr) s = .next { s with
      seq := .idle
      status := { s.status with err := .invalidAction, done := true } } ∧
    ∀ rest : List Turn, s.inputs = .sequencer :: rest → 12 ≤ sn.fanCmd.action.toNat →
      step s = .next { s with
        inputs := rest
        seq := .idle
        status := { s.status with err := .invalidAction, done := true } }

/-- FIELD after a mattress build, as the sum of its parts, and the other result registers (R183, R203, R205). -/
def Obligations.MatSendWritesTheResults : Prop :=
  ∀ (s : State) (sn : Snapshot) (rest : List Turn), s.inputs = .sequencer :: rest → s.Enabled sn →
    sn.op = 0b10#2 → sn.matReps ≠ 0#8 → sn.zoneMask.getLsbD sn.matCmd.zone.toNat = true →
    ∃ t, step s = .next t ∧
      (let m := sn.matCmd
       let ones := popcount (bin 3 m.zone.toNat) + popcount (bin 5 m.code.toNat) + popcount (bin 4 m.heat.toNat)
         + m.stayOn.toNat + m.preheat.toNat + m.on.toNat
       t.results.field.toNat = ones * 2 ^ 19 + m.zone.toNat * 2 ^ 16 + m.code.toNat * 2 ^ 11 + m.heat.toNat * 2 ^ 4
         + m.stayOn.toNat * 2 ^ 2 + m.preheat.toNat * 2 + m.on.toNat) ∧
      t.results.fieldLen = 25#5 ∧
      t.results.symLen.toNat = 87 * sn.matReps.toNat ∧
      t.results.byteLen.toNat = (87 * sn.matReps.toNat + 7) / 8 ∧
      t.results.txFreq = 418000000#32 ∧ t.results.txRate = 1600#16 ∧ t.results.txMod = 1#2

/-- TXBUF after a mattress build, how the build ends, and what it leaves alone (R226, R228, R229, R230). -/
def Obligations.MatSendBuildsAndEnds : Prop :=
  ∀ (s : State) (sn : Snapshot) (rest : List Turn), s.inputs = .sequencer :: rest → s.Enabled sn →
    sn.op = 0b10#2 → sn.matReps ≠ 0#8 → sn.zoneMask.getLsbD sn.matCmd.zone.toNat = true →
    ∃ t, step s = .next t ∧
      (∀ j (h : j < (pack (matStream sn.matCmd sn.matReps)).length),
        t.txbufByte j = (pack (matStream sn.matCmd sn.matReps))[j]) ∧
      (∀ j, (pack (matStream sn.matCmd sn.matReps)).length ≤ j → t.txbufByte j = s.txbufByte j) ∧
      (sn.notx = true → t.seq = .idle ∧ t.status = { s.status with err := .ok, done := true } ∧
        t.history = s.history ∧ t.req = s.req) ∧
      (sn.notx = false → t.seq = .txWait ∧ t.status = s.status ∧
        ∃ r : Request, r.bytes = pack (matStream sn.matCmd sn.matReps) ∧ r.freq = 418000000#32 ∧
          r.rate = 1600#16 ∧ r.modn = 1#2 ∧ t.req = some r ∧ t.history = s.history ++ [.transmit r]) ∧
      t.ctrl = s.ctrl ∧ t.fanCmd = s.fanCmd ∧ t.fanReps = s.fanReps ∧ t.matCmd = s.matCmd ∧
      t.matReps = s.matReps ∧ t.zoneMask = s.zoneMask ∧ t.snap = s.snap ∧ t.inputs = rest

/-- A zone whose mask bit is 0 is rejected when the repeat count is at least 1: nothing is built or sent. The reset
value of the mask accepts every zone (R263). -/
def Obligations.ZoneOutsideTheMaskIsRejected : Prop :=
  (∀ (s : State) (sn : Snapshot) (rest : List Turn), s.inputs = .sequencer :: rest → s.Enabled sn →
    sn.op = 0b10#2 → sn.matReps ≠ 0#8 → sn.zoneMask.getLsbD sn.matCmd.zone.toNat = false →
    step s = .next { s with
      inputs := rest
      seq := .idle
      status := { s.status with err := .invalidZone, done := true } }) ∧
  (∀ zone : BitVec 3, State.reset.zoneMask.getLsbD zone.toNat = true)

/-- The compute step of a reserved OP completes with ILLEGAL_OP: nothing is examined, built or sent (R265). -/
def Obligations.ReservedOpCompletesWithIllegalOp : Prop :=
  ∀ (s : State) (sn : Snapshot) (rest : List Turn), s.inputs = .sequencer :: rest → s.Enabled sn →
    (sn.op = 0b00#2 ∨ sn.op = 0b11#2) →
    step s = .next { s with
      inputs := rest
      seq := .idle
      status := { s.status with err := .illegalOp, done := true } }

/-- The radio's answer ends the pending request: OK or TX_FAIL, no retry, the results of the build kept (R231). -/
def Obligations.RadioAnswerEndsTheRequest : Prop :=
  ∀ (s : State) (ans : RadioAnswer) (rest : List Turn), s.inputs = .radio ans :: rest → s.seq = .txWait →
    step s = .next { s with
      inputs := rest
      seq := .idle
      req := none
      status := { s.status with err := (match ans with | .ok => .ok | .fail => .txFail), done := true } }

/-- What the CTRL and STATUS instructions leave unchanged: every byte of TXBUF always; SEQ and the snapshot while BUSY;
the command registers, the results and the request but for an SRST performed in IDLE (R222 to R224, R233, R234). That
the model's own fields, the history, the turns and the two counters, stay as they are, through a performed SRST too, is
the model's choice (log 1, log 2, log 3, log 9). -/
def Obligations.ControlInstructionsLeaveTheRest : Prop :=
  ∀ (i : Instr) (s t : State), i.format ≠ .fanCmd → exec i s = .next t →
    (∀ a, t.txbufByte a = s.txbufByte a) ∧ t.history = s.history ∧ t.inputs = s.inputs ∧ t.draws = s.draws ∧
    t.epoch = s.epoch ∧
    (s.seq ≠ .idle → t.seq = s.seq ∧ t.snap = s.snap) ∧
    ((∀ op notx irqEn, i = .srst op notx irqEn → s.seq ≠ .idle) →
      t.fanCmd = s.fanCmd ∧ t.fanReps = s.fanReps ∧ t.matCmd = s.matCmd ∧ t.matReps = s.matReps ∧
      t.zoneMask = s.zoneMask ∧ t.results = s.results ∧ t.req = s.req) ∧
    (i.format = .statusW1c → t.ctrl = s.ctrl ∧ t.seq = s.seq ∧ t.snap = s.snap) ∧
    ((∃ op notx irqEn, i = .ctrlWrite op notx irqEn) →
      t.status = s.status ∧ t.seq = s.seq ∧ t.snap = s.snap)

/-- What a fan instruction leaves unchanged: every register but STATUS and the results, and every byte of TXBUF at
or past the stream it stores; the reserved action stores nothing (R225, R229, R132). That the stream is that of the
instruction's own operands, and that the reserved action stores nothing, whatever fan command the snapshot holds, rests
on the model's reading of the fan rows (log 5); that nothing changes outside COMPUTE is the model's choice (log 11). -/
def Obligations.FanInstructionsLeaveTheRest : Prop :=
  ∀ (action : BitVec 4) (len : Bool) (addr : BitVec 5) (i : Instr) (s t : State),
    i ∈ fanInstrs action len addr → exec i s = .next t →
    t.ctrl = s.ctrl ∧ t.fanCmd = s.fanCmd ∧ t.fanReps = s.fanReps ∧ t.matCmd = s.matCmd ∧ t.matReps = s.matReps ∧
    t.zoneMask = s.zoneMask ∧ t.snap = s.snap ∧ t.inputs = s.inputs ∧ t.draws = s.draws ∧ t.epoch = s.epoch ∧
    t.status.ovr = s.status.ovr ∧ t.status.lastOp = s.status.lastOp ∧
    (∀ code sn, (i, code) ∈ fanRows len addr → s.snap = some sn →
      ∀ j, (pack (fanStream len addr code sn.fanReps)).length ≤ j → t.txbufByte j = s.txbufByte j) ∧
    (i = .fanSendReservedAction action len addr →
      (∀ j, t.txbufByte j = s.txbufByte j) ∧ t.results = s.results ∧ t.history = s.history ∧ t.req = s.req) ∧
    (s.seq ≠ .compute → t = s)

/-- An access that is not 32 bits wide, not at a multiple of 4 or above 0x1FFF gets a bus error, read or write; there
is no next state, so nothing changes (R65). -/
def Obligations.IllegalAccessIsABusError : Prop :=
  ∀ (s : State) (rest : List Turn) (width offset : Nat) (w : Word),
    (width ≠ 32 ∨ offset % 4 ≠ 0 ∨ 0x1FFF < offset) →
    (s.inputs = .host (.read width offset) :: rest → step s = .fault (.busError offset)) ∧
    (s.inputs = .host (.write width offset w) :: rest → step s = .fault (.busError offset))

/-- Nothing but an illegal host access stops the machine: every other step has a next state (R260, R268). -/
def Obligations.OnlyAnIllegalAccessStops : Prop :=
  ∀ s : State,
    (∃ t, step s = .next t) ∨
    (∃ a rest offset, s.inputs = .host a :: rest ∧ a.legal = false ∧ step s = .fault (.busError offset))

/-- A write to a command register stores its defined fields and ignores its reserved bits, in every sequencer state
(R235, R86). -/
def Obligations.CommandWriteStoresDefinedFields : Prop :=
  ∀ (s : State) (rest : List Turn) (w : Word),
    (s.inputs = .host (.write 32 0x08 w) :: rest → step s = .next { s with
      inputs := rest
      fanCmd := { addr := w.extractLsb' 0 5, addrLen := w.getLsbD 7, action := w.extractLsb' 8 4 } }) ∧
    (s.inputs = .host (.write 32 0x0C w) :: rest → step s = .next { s with
      inputs := rest, fanReps := w.extractLsb' 0 8 }) ∧
    (s.inputs = .host (.write 32 0x10 w) :: rest → step s = .next { s with
      inputs := rest
      matCmd := { code := w.extractLsb' 0 5, zone := w.extractLsb' 8 3, heat := w.extractLsb' 12 4,
                  on := w.getLsbD 16, stayOn := w.getLsbD 17, preheat := w.getLsbD 18 } }) ∧
    (s.inputs = .host (.write 32 0x14 w) :: rest → step s = .next { s with
      inputs := rest, matReps := w.extractLsb' 0 8 }) ∧
    (s.inputs = .host (.write 32 0x18 w) :: rest → step s = .next { s with
      inputs := rest, zoneMask := w.extractLsb' 0 8 })

/-- A legal write to a result register, a reserved offset or the TXBUF window is ignored (R236, R64, R62). -/
def Obligations.WriteElsewhereIsIgnored : Prop :=
  ∀ (s : State) (rest : List Turn) (offset : Nat) (w : Word),
    s.inputs = .host (.write 32 offset w) :: rest → offset % 4 = 0 → offset ≤ 0x1FFF →
    (0x1C ≤ offset) →
    step s = .next { s with inputs := rest }

/-- A legal read returns the word at its offset and changes nothing, where the value is not unspecified (R68, R237,
R238). The history is the model's record of it (log 9). -/
def Obligations.ReadReturnsTheStoredWord : Prop :=
  ∀ (s : State) (rest : List Turn) (offset : Nat),
    s.inputs = .host (.read 32 offset) :: rest → offset % 4 = 0 → offset ≤ 0x1FFF →
    (s.seq = .idle ∨ offset < 0x20 ∨ (0x3C ≤ offset ∧ offset ≤ 0xFFF)) →
    step s = .next { s with
      inputs := rest, history := s.history ++ [.readData offset (s.storedWord offset)] }

/-- While BUSY, a read of a result register or of the TXBUF window returns a value drawn freshly: the free value of
the counter, which advances; nothing of the block changes (R71, R68). -/
def Obligations.BusyReadIsDrawnFreshly : Prop :=
  ∀ (s : State) (rest : List Turn) (offset : Nat),
    s.inputs = .host (.read 32 offset) :: rest → offset % 4 = 0 → s.seq ≠ .idle →
    ((0x20 ≤ offset ∧ offset ≤ 0x38) ∨ (0x1000 ≤ offset ∧ offset ≤ 0x1FFF)) →
    step s = .next { s with
      inputs := rest
      history := s.history ++ [.readData offset (Config.freeRead s.draws)]
      draws := s.draws + 1 }

/-- The words of the registers, each the sum of its fields at their places (R237, R23 to R36). -/
def Obligations.RegisterWordIsItsFields : Prop :=
  ∀ s : State,
    (s.storedWord 0x00).toNat = s.ctrl.irqEn.toNat * 16 + s.ctrl.notx.toNat * 8 + s.ctrl.op.toNat * 2 ∧
    (s.storedWord 0x04).toNat = s.status.lastOp.toNat * 256 + s.status.err.code.toNat * 16
      + (s.status.done && s.ctrl.irqEn).toNat * 8 + s.status.ovr.toNat * 4 + s.status.done.toNat * 2
      + (if s.seq = .idle then 0 else 1) ∧
    (s.storedWord 0x08).toNat = s.fanCmd.action.toNat * 256 + s.fanCmd.addrLen.toNat * 128 + s.fanCmd.addr.toNat ∧
    (s.storedWord 0x0C).toNat = s.fanReps.toNat ∧
    (s.storedWord 0x10).toNat = s.matCmd.preheat.toNat * 2 ^ 18 + s.matCmd.stayOn.toNat * 2 ^ 17
      + s.matCmd.on.toNat * 2 ^ 16 + s.matCmd.heat.toNat * 2 ^ 12 + s.matCmd.zone.toNat * 2 ^ 8
      + s.matCmd.code.toNat ∧
    (s.storedWord 0x14).toNat = s.matReps.toNat ∧
    (s.storedWord 0x18).toNat = s.zoneMask.toNat ∧
    (s.storedWord 0x20).toNat = s.results.field.toNat ∧
    (s.storedWord 0x24).toNat = s.results.fieldLen.toNat ∧
    (s.storedWord 0x28).toNat = s.results.symLen.toNat ∧
    (s.storedWord 0x2C).toNat = s.results.byteLen.toNat ∧
    (s.storedWord 0x30).toNat = s.results.txFreq.toNat ∧
    (s.storedWord 0x34).toNat = s.results.txRate.toNat ∧
    (s.storedWord 0x38).toNat = s.results.txMod.toNat

/-- The word of the window at 0x1000 + 4k is the little-endian word of TXBUF[4k .. 4k+3] (R66, R62). -/
def Obligations.WindowWordIsLittleEndian : Prop :=
  ∀ (s : State) (k : Nat), k < 1024 →
    (s.storedWord (0x1000 + 4 * k)).toNat =
      (s.txbufByte (4 * k)).toNat + (s.txbufByte (4 * k + 1)).toNat * 2 ^ 8
        + (s.txbufByte (4 * k + 2)).toNat * 2 ^ 16 + (s.txbufByte (4 * k + 3)).toNat * 2 ^ 24

/-- A legal read of a reserved offset returns 0 and a legal write to one is ignored; neither is an error (R64). -/
def Obligations.ReservedOffsetReadsZero : Prop :=
  ∀ (s : State) (rest : List Turn) (offset : Nat) (w : Word),
    (offset = 0x1C ∨ offset = 0x3C ∨ (0x40 ≤ offset ∧ offset ≤ 0xFFF)) → offset % 4 = 0 →
    (s.inputs = .host (.read 32 offset) :: rest →
      step s = .next { s with inputs := rest, history := s.history ++ [.readData offset 0#32] }) ∧
    (s.inputs = .host (.write 32 offset w) :: rest → step s = .next { s with inputs := rest })

/-- A command register read back after a write gives the written word without its reserved bits (R43, R235). -/
def Obligations.CommandReadbackDropsReservedBits : Prop :=
  ∀ (s : State) (w : Word),
    (writeReg 0x08 w s).storedWord 0x08 = w &&& 0xF9F#32 ∧
    (writeReg 0x0C w s).storedWord 0x0C = w &&& 0xFF#32 ∧
    (writeReg 0x10 w s).storedWord 0x10 = w &&& 0x7F71F#32 ∧
    (writeReg 0x14 w s).storedWord 0x14 = w &&& 0xFF#32 ∧
    (writeReg 0x18 w s).storedWord 0x18 = w &&& 0xFF#32

/-- PACK gives ceil(len / 8) bytes (R121). -/
def Obligations.PackLengthIsTheCeiling : Prop :=
  ∀ bits : BitString, ((pack bits).length : ℤ) = ⌈(bits.length : ℚ) / 8⌉

/-- Reading PACK(s) back gives s followed by zero bits up to the next byte, so PACK is injective on strings of one
length (R124). -/
def Obligations.UnpackOfPackIsThePaddedString : Prop :=
  (∀ bits : BitString, unpack (pack bits) = bits ++ zeros (8 * ((bits.length + 7) / 8) - bits.length)) ∧
  (∀ bits other : BitString, bits.length = other.length → pack bits = pack other → bits = other)

/-- Symbol i of the stream is bit 7 − i mod 8 of byte i div 8, and so, where TXBUF holds the packed stream, bit
8·((i div 8) mod 4) + 7 − i mod 8 of the window's word i div 32: bit 7 of the first word for symbol 0, bit 15 of it
for symbol 8 (R67). -/
def Obligations.SymbolIsItsBitOfItsByte : Prop :=
  ∀ (bits : BitString) (i : Nat) (h : i < bits.length),
    ((pack bits)[i / 8]?).map (fun b => b.getLsbD (7 - i % 8)) = some (bits[i]) ∧
    ∀ s : State, bits.length ≤ 32768 → (∀ j (hj : j < (pack bits).length), s.txbufByte j = (pack bits)[j]) →
      (s.storedWord (0x1000 + 4 * (i / 32))).getLsbD (8 * (i / 8 % 4) + (7 - i % 8)) = bits[i]

/-- The sequential packer writes the bytes of PACK (R123). -/
def Obligations.SequentialPackerIsPack : Prop :=
  ∀ bits : BitString, seqPack bits = pack bits

/-- The length of a fan stream for any field, of a 13-bit field's stream and of its packed buffer, and the source's
example of 155 bytes (R163). -/
def Obligations.FanStreamLength : Prop :=
  (∀ (field : BitString) (r : Nat), (fanModulate field r).length = 36 + r * (3 * field.length + 36)) ∧
  (∀ (field : BitString) (r : Nat), field.length = 13 →
    (fanModulate field r).length = 36 + 75 * r ∧
    ((pack (fanModulate field r)).length : ℤ) = ⌈(36 + 75 * r : ℚ) / 8⌉) ∧
  (∀ addr : BitVec 5, (pack (fanStream true addr 0x04#8 16#8)).length = 155)

/-- Field bit b of copy r is symbol 36 + 75·(r−1) + 3·b + 2, and the number of 1 symbols (R167). -/
def Obligations.FanStreamHoldsTheField : Prop :=
  ∀ (field : BitString) (reps : Nat), field.length = 13 →
    (∀ r b, 1 ≤ r → r ≤ reps → b < 13 →
      (fanModulate field reps)[36 + 75 * (r - 1) + 3 * b + 2]? = field[b]?) ∧
    popcount (fanModulate field reps) = reps * (13 + popcount field)

/-- FIELD bit k is symbol 87·(r−1) + 12 + 3·k + 2 of unit r: the mattress field goes out from FIELD bit 0 upward
(R207); with the length of the stream (R203) and its number of 1 symbols (R209). -/
def Obligations.MatStreamHoldsTheFieldReversed : Prop :=
  ∀ (field : BitString) (reps : Nat), field.length = 25 →
    (∀ r k, 1 ≤ r → r ≤ reps → k < 25 →
      (matModulate field reps)[87 * (r - 1) + 12 + 3 * k + 2]?
        = some ((BitVec.ofNat 25 (val field)).getLsbD k)) ∧
    (matModulate field reps).length = 87 * reps ∧
    popcount (matModulate field reps) = reps * (6 + 25 + popcount field)

/-- The fan framer emits FAN_MODULATE symbol by symbol and stops there (R166). -/
def Obligations.SequentialFanFramerIsFanModulate : Prop :=
  ∀ (field : BitString) (reps n : Nat), field.length = 13 → 1 ≤ reps → 36 + 75 * reps ≤ n →
    seqFan field reps n = fanModulate field reps

/-- The mattress framer emits MAT_MODULATE symbol by symbol and stops there (R206). -/
def Obligations.SequentialMatFramerIsMatModulate : Prop :=
  ∀ (field : BitString) (reps n : Nat), field.length = 25 → 1 ≤ reps → 87 * reps ≤ n →
    seqMat field reps n = matModulate field reps

/-- A 4-bit address v and the 5-bit address 0b10000 | v give the same field, whatever the action (R131). -/
def Obligations.FourBitAddressIsThePrefixedFiveBitAddress : Prop :=
  ∀ (v : BitVec 5) (action : BitVec 4),
    fanEncode (addrString false v) action = fanEncode (addrString true (0b10000#5 ||| (v &&& 0b01111#5))) action

/-- The checksum is the count of 1 bits of the operands, at most 15, so its first two bits are 0 (R181, R184). -/
def Obligations.ChecksumCountsTheOperandBits : Prop :=
  ∀ m : MatCmd,
    let ones := popcount (bin 3 m.zone.toNat) + popcount (bin 5 m.code.toNat) + popcount (bin 4 m.heat.toNat)
      + m.stayOn.toNat + m.preheat.toNat + m.on.toNat
    popcount (matPayload m) = ones ∧ ones ≤ 15 ∧ val (checksum (matPayload m)) = ones ∧
    (checksum (matPayload m))[0]? = some false ∧ (checksum (matPayload m))[1]? = some false

/-- Changing one payload bit changes the count of 1 bits, and so the checksum, by exactly 1, up for a 0 made 1 and down
for a 1 made 0 (R186). -/
def Obligations.OnePayloadBitMovesTheChecksumByOne : Prop :=
  ∀ (p : BitString) (i : Nat) (h : i < p.length), p.length = 19 →
    (p[i] = false → popcount (p.set i true) = popcount p + 1 ∧
      val (checksum (p.set i true)) = val (checksum p) + 1) ∧
    (p[i] = true → popcount (p.set i false) + 1 = popcount p ∧
      val (checksum (p.set i false)) + 1 = val (checksum p))

/-- Modulating the field unreversed gives the same stream exactly when the field equals its reversal (R208). -/
def Obligations.ReversalMattersButForPalindromes : Prop :=
  ∀ (field : BitString) (reps : Nat), field.length = 25 → 1 ≤ reps →
    (matModulate field reps = rep reps (matPreamble ++ mod3 field) ↔ field.reverse = field)

/-- Every build fits TXBUF, SYMLEN's 16 bits and BYTELEN's 13 bits (R239). -/
def Obligations.EveryBuildFitsTheBuffer : Prop :=
  ∀ (len : Bool) (addr : BitVec 5) (code : BitVec 8) (m : MatCmd) (reps : BitVec 8),
    (fanStream len addr code reps).length ≤ 19161 ∧ (pack (fanStream len addr code reps)).length ≤ 2396 ∧
    (matStream m reps).length ≤ 22185 ∧ (pack (matStream m reps)).length ≤ 2774

/-- The invariant holds at reset. -/
def Obligations.InvariantHoldsAtReset : Prop := State.reset.Inv

/-- Every step keeps the invariant: TXBUF's canonical form and the last build in it, sound result registers, the
snapshot of a running operation, and REQ exactly in TX_WAIT with the bytes TXBUF holds (R37 to R40, R74). -/
def Obligations.EveryStepKeepsTheInvariant : Prop :=
  ∀ s t : State, s.Inv → step s = .next t → t.Inv

/-- A Transmit event is appended only by ISSUE, so only by a FAN_SEND or MAT_SEND with NOTX = 0 that passed every
check; it makes REQ present, its bytes are PACK of the symbol stream and its parameters the protocol's (R275). -/
def Obligations.TransmitOnlyByACheckedSend : Prop :=
  ∀ (s t : State) (r : Request), step s = .next t → t.history = s.history ++ [.transmit r] →
    t.seq = .txWait ∧ t.req = some r ∧
    ∃ sn, s.Enabled sn ∧ sn.notx = false ∧
      ((sn.op = 0b01#2 ∧ sn.fanReps ≠ 0#8 ∧
        ∃ f, fanEncode (addrString sn.fanCmd.addrLen sn.fanCmd.addr) sn.fanCmd.action = some f ∧
          r = { bytes := pack (fanModulate f sn.fanReps.toNat), freq := 303875000#32, rate := 3000#16,
                modn := 1#2 }) ∨
       (sn.op = 0b10#2 ∧ sn.matReps ≠ 0#8 ∧ sn.zoneMask.getLsbD sn.matCmd.zone.toNat = true ∧
          r = { bytes := pack (matStream sn.matCmd sn.matReps), freq := 418000000#32, rate := 1600#16,
                modn := 1#2 }))

/-- The sequencer's transitions and what causes each: IDLE to COMPUTE by an accepted START, COMPUTE to IDLE or
TX_WAIT by the compute step, TX_WAIT to IDLE by the radio's answer, no other but a hardware reset (R38, R290). The
radio answers in its turn, or by itself where no turn is given (R276; log 1, log 4). -/
def Obligations.SequencerMovesOnlyAsStated : Prop :=
  ∀ s t : State, step s = .next t →
    (s.seq = .idle → t.seq = .idle ∨
      (t.seq = .compute ∧
        ∃ w rest, s.inputs = .host (.write 32 0x00 w) :: rest ∧ w.getLsbD 0 = true ∧ w.getLsbD 31 = false)) ∧
    (s.seq = .compute → t.seq = .compute ∨
      (s.inputs = [] ∨ s.inputs.head? = some .sequencer) ∨
      (t.seq = .idle ∧ s.inputs.head? = some .hardwareReset)) ∧
    (s.seq = .txWait → t.seq = .txWait ∨
      (t.seq = .idle ∧
        (s.inputs = [] ∨ s.inputs.head? = some (.radio .ok) ∨ s.inputs.head? = some (.radio .fail) ∨
         s.inputs.head? = some .hardwareReset)))

/-- Only the compute step writes TXBUF, and only the bytes below BYTELEN (R37); a hardware reset draws it anew. -/
def Obligations.OnlyTheComputeStepWritesTxbuf : Prop :=
  ∀ s t : State, step s = .next t → s.inputs.head? ≠ some .hardwareReset →
    (s.seq ≠ .compute → ∀ j, t.txbufByte j = s.txbufByte j) ∧
    (t.seq = s.seq → ∀ j, t.txbufByte j = s.txbufByte j) ∧
    (∀ j, t.results.byteLen.toNat ≤ j → t.txbufByte j = s.txbufByte j)

/-- OVR is sticky: once set it is cleared only by a STATUS write with bit 2 set, by a performed soft reset or by a
hardware reset (R44, R267). -/
def Obligations.OverrunIsSticky : Prop :=
  ∀ s t : State, step s = .next t → s.status.ovr = true →
    t.status.ovr = true ∨ s.inputs.head? = some .hardwareReset ∨
    ∃ w rest, (s.inputs = .host (.write 32 0x04 w) :: rest ∧ w.getLsbD 2 = true) ∨
      (s.inputs = .host (.write 32 0x00 w) :: rest ∧ w.getLsbD 31 = true ∧ s.seq = .idle)

/-- Every end of an operation, with or without error, sets DONE, so irq takes the level of IRQ_EN; LAST_OP, OVR and
CTRL are as they were (R232, R270). -/
def Obligations.EveryCompletionSetsDone : Prop :=
  ∀ s t : State, step s = .next t → s.inputs.head? ≠ some .hardwareReset → s.seq ≠ .idle → t.seq = .idle →
    t.status.done = true ∧ t.irq = s.ctrl.irqEn ∧ t.status.lastOp = s.status.lastOp ∧
    t.status.ovr = s.status.ovr ∧ t.ctrl = s.ctrl

/-- The compute step reads the snapshot only: other values in CTRL and the command registers give the same step
(R39, R73, R235). -/
def Obligations.ComputeStepReadsOnlyTheSnapshot : Prop :=
  ∀ (s t : State) (rest : List Turn) (c : Ctrl) (f : FanCmd) (fr : BitVec 8) (m : MatCmd) (mr z : BitVec 8),
    s.inputs = .sequencer :: rest → step s = .next t →
    step { s with ctrl := c, fanCmd := f, fanReps := fr, matCmd := m, matReps := mr, zoneMask := z } =
      .next { t with ctrl := c, fanCmd := f, fanReps := fr, matCmd := m, matReps := mr, zoneMask := z }

/-- Every accepted START ends in three steps, its own, the sequencer's and the radio's: IDLE, with DONE set, LAST_OP
its OP and ERR the first failing check of R269's order, or the radio's answer (R223, R269, R261). That the three turns
come in this order is the model's schedule (log 1, log 4); with no turn after the START the same holds for the answer
the radio draws by itself (R276). -/
def Obligations.EveryAcceptedStartEndsWithItsCode : Prop :=
  ∀ (s : State) (w : Word), s.seq = .idle → w.getLsbD 0 = true → w.getLsbD 31 = false →
    (∀ ans, s.inputs = [.host (.write 32 0x00 w), .sequencer, .radio ans] →
      ∃ t : State, Sys2Proof.core.run 3 s = .next t ∧ t.seq = .idle ∧ t.status.done = true ∧
        t.status.lastOp = w.extractLsb' 1 2 ∧ t.status.err = expectedErr s w ans) ∧
    (s.inputs = [.host (.write 32 0x00 w)] →
      ∃ t : State, Sys2Proof.core.run 3 s = .next t ∧ t.seq = .idle ∧ t.status.done = true ∧
        t.status.lastOp = w.extractLsb' 1 2 ∧ t.status.err = expectedErr s w (drawnAnswer s.draws))
end

