-- ==== Sys2Proof/Laws/BitString.lean ====
section
/-! SUPPORT. The small lemmas of bit strings and of the protocol functions' pieces: lengths, bits, numbers. -/

namespace Sys2Proof.Machine

@[simp] theorem length_bin (n v : Nat) : (bin n v).length = n := by simp [bin]

@[simp] theorem length_zeros (n : Nat) : (zeros n).length = n := by simp [zeros]

@[simp] theorem length_flagString (b : Bool) : (flagString b).length = 1 := rfl

@[simp] theorem length_rep (n : Nat) (s : BitString) : (rep n s).length = n * s.length := by
  simp [rep, List.length_flatten]

@[simp] theorem rep_zero (s : BitString) : rep 0 s = [] := rfl

theorem rep_succ (n : Nat) (s : BitString) : rep (n + 1) s = s ++ rep n s := by
  simp [rep, List.replicate_succ]

@[simp] theorem mod3_nil : mod3 [] = [] := rfl

@[simp] theorem mod3_cons (b : Bool) (s : BitString) : mod3 (b :: s) = true :: false :: b :: mod3 s := rfl

@[simp] theorem length_mod3 (s : BitString) : (mod3 s).length = 3 * s.length := by
  induction s with
  | nil => rfl
  | cons b s ih => simp only [mod3_cons, List.length_cons, ih]; omega

@[simp] theorem length_fanGuard : fanGuard.length = 36 := rfl

@[simp] theorem length_matPreamble : matPreamble.length = 12 := rfl

@[simp] theorem length_packBytes (m : Nat) (bits : BitString) : (packBytes m bits).length = m := by
  induction m generalizing bits with
  | zero => rfl
  | succ m ih => simp [packBytes, ih]

theorem length_addrString (len : Bool) (addr : BitVec 5) :
    (addrString len addr).length = if len then 5 else 4 := by
  cases len <;> simp [addrString]

/-- Both address lengths give a 13-bit field (R131). -/
@[simp] theorem length_fanField (len : Bool) (addr : BitVec 5) (code : BitVec 8) :
    (fanField (addrString len addr) code).length = 13 := by
  cases len <;> simp [fanField, addrField, addrString]

@[simp] theorem length_matPayload (m : MatCmd) : (matPayload m).length = 19 := by
  simp [matPayload]

@[simp] theorem length_checksum (p : BitString) : (checksum p).length = 6 := by simp [checksum]

@[simp] theorem length_matEncode (m : MatCmd) : (matEncode m).length = 25 := by simp [matEncode]

@[simp] theorem popcount_nil : popcount [] = 0 := rfl

@[simp] theorem popcount_cons (b : Bool) (s : BitString) : popcount (b :: s) = b.toNat + popcount s := by
  cases b <;> simp [popcount, Nat.add_comm]

@[simp] theorem popcount_append (s t : BitString) : popcount (s ++ t) = popcount s + popcount t := by
  simp [popcount]

@[simp] theorem popcount_zeros (n : Nat) : popcount (zeros n) = 0 := by
  simp [popcount, zeros, List.count_replicate]

theorem popcount_le_length (s : BitString) : popcount s ≤ s.length := List.count_le_length

theorem val_foldl (s : BitString) (acc : Nat) :
    s.foldl (fun a b => 2 * a + b.toNat) acc = acc * 2 ^ s.length + val s := by
  induction s generalizing acc with
  | nil => simp [val]
  | cons b s ih =>
    simp only [List.foldl_cons, List.length_cons, val]
    rw [ih, ih (2 * 0 + b.toNat)]
    rw [Nat.pow_succ]
    ring

@[simp] theorem val_nil : val [] = 0 := rfl

theorem val_cons (b : Bool) (s : BitString) : val (b :: s) = b.toNat * 2 ^ s.length + val s := by
  simp only [val, List.foldl_cons]
  rw [val_foldl s (2 * 0 + b.toNat)]
  simp [val]

theorem val_append (s t : BitString) : val (s ++ t) = val s * 2 ^ t.length + val t := by
  simp only [val, List.foldl_append]
  rw [val_foldl t]
  rfl

theorem val_lt (s : BitString) : val s < 2 ^ s.length := by
  induction s with
  | nil => simp
  | cons b s ih =>
    rw [val_cons, List.length_cons, Nat.pow_succ]
    have : b.toNat ≤ 1 := by cases b <;> simp
    have := Nat.mul_le_mul_right (2 ^ s.length) this
    omega

theorem bin_succ (n v : Nat) : bin (n + 1) v = v.testBit n :: bin n v := by
  have h : (fun i => v.testBit (n - 1 - i)) = fun i => v.testBit (n - (i + 1)) := by
    funext i; congr 1; omega
  simp [bin, List.range_succ_eq_map, Function.comp_def, h]

@[simp] theorem bin_zero (v : Nat) : bin 0 v = [] := rfl

/-- A number that fits is recovered from its string (R9, R11). -/
theorem val_bin (n v : Nat) : val (bin n v) = v % 2 ^ n := by
  induction n with
  | zero => simp [Nat.mod_one]
  | succ n ih =>
    rw [bin_succ, val_cons, length_bin, ih]
    have h : v % 2 ^ (n + 1) = v % 2 ^ n + 2 ^ n * (v / 2 ^ n % 2) := by rw [Nat.pow_succ, Nat.mod_mul]
    rw [h, Nat.toNat_testBit]
    ring

/-- A string is recovered from its number (R11). -/
theorem bin_val (s : BitString) : bin s.length (val s) = s := by
  have key : ∀ (s : BitString) (hi : Nat), bin s.length (hi * 2 ^ s.length + val s) = s := by
    intro s
    induction s with
    | nil => intro hi; rfl
    | cons b s ih =>
      intro hi
      rw [List.length_cons, bin_succ, val_cons]
      have hv := val_lt s
      have e : hi * 2 ^ (s.length + 1) + (b.toNat * 2 ^ s.length + val s)
          = (2 * hi + b.toNat) * 2 ^ s.length + val s := by
        rw [Nat.pow_succ]; ring
      rw [e, ih]
      congr 1
      rw [Nat.testBit_eq_decide_div_mod_eq, Nat.mul_comm, Nat.mul_add_div (Nat.two_pow_pos _),
        Nat.div_eq_of_lt hv]
      cases b <;> simp
  simpa using key s 0

end Sys2Proof.Machine
end

