-- ==== Sys2Proof/Laws/Memory.lean ====
section
/-! SUPPORT. TXBUF as a memory: a read after a write, and that every memory operation keeps the canonical form. -/

namespace Sys2Proof.Machine

theorem Memory.wfFrom_mono {lo hi : Nat} (h : lo ≤ hi) {m : Memory} (hm : m.wfFrom hi = true) :
    m.wfFrom lo = true := by
  cases m with
  | nil => rfl
  | cons c rest =>
    simp only [Memory.wfFrom, Bool.and_eq_true, decide_eq_true_eq] at hm ⊢
    exact ⟨⟨by omega, hm.1.2⟩, hm.2⟩

/-- An index below the least one is not listed. -/
theorem Memory.read?_below {lo a : Nat} {m : Memory} (hm : m.wfFrom lo = true) (h : a < lo) : m.read? a = none := by
  induction m generalizing lo with
  | nil => rfl
  | cons c rest ih =>
    simp only [Memory.wfFrom, Bool.and_eq_true, decide_eq_true_eq] at hm
    simp only [Memory.read?]
    rw [if_neg (by omega)]
    exact ih hm.2 (by omega)

theorem Memory.wfFrom_write {lo a : Nat} {m : Memory} (hm : m.wfFrom lo = true) (ha : lo ≤ a) (hb : a < txbufBytes)
    (b : Byte) : (m.write a b).wfFrom lo = true := by
  induction m generalizing lo with
  | nil => simp [Memory.write, Memory.wfFrom, ha, hb]
  | cons c rest ih =>
    simp only [Memory.wfFrom, Bool.and_eq_true, decide_eq_true_eq] at hm
    simp only [Memory.write]
    split
    · simp only [Memory.wfFrom, Bool.and_eq_true, decide_eq_true_eq]
      exact ⟨⟨ha, hb⟩, ⟨by omega, hm.1.2⟩, hm.2⟩
    · split
      · simp only [Memory.wfFrom, Bool.and_eq_true, decide_eq_true_eq]
        exact ⟨⟨ha, hb⟩, by simpa [show a = c.1 by assumption] using hm.2⟩
      · simp only [Memory.wfFrom, Bool.and_eq_true, decide_eq_true_eq]
        exact ⟨hm.1, ih hm.2 (by omega)⟩

/-- Writing a byte inside TXBUF keeps the canonical form. -/
theorem Memory.wf_write {m : Memory} (hm : m.wf = true) {a : Nat} (ha : a < txbufBytes) (b : Byte) :
    (m.write a b).wf = true :=
  Memory.wfFrom_write hm (Nat.zero_le a) ha b

/-- Writing bytes that end inside TXBUF keeps the canonical form. -/
theorem Memory.wf_writeBytes {m : Memory} (hm : m.wf = true) {a : Nat} {bytes : List Byte}
    (ha : a + bytes.length ≤ txbufBytes) : (m.writeBytes a bytes).wf = true := by
  induction bytes generalizing m a with
  | nil => exact hm
  | cons b rest ih =>
    simp only [List.length_cons] at ha
    exact ih (Memory.wf_write hm (by omega) b) (by omega)

/-- The empty memory is in canonical form. -/
theorem Memory.wf_nil : Memory.wf [] = true := rfl

/-- A read after a write to the same index gives the byte written. -/
theorem Memory.read?_write_self (m : Memory) (a : Nat) (b : Byte) : (m.write a b).read? a = some b := by
  induction m with
  | nil => simp [Memory.write, Memory.read?]
  | cons c rest ih =>
    simp only [Memory.write]
    split
    · simp [Memory.read?]
    · split
      · simp [Memory.read?]
      · simp only [Memory.read?]
        rw [if_neg (by omega)]
        exact ih

/-- A write leaves every other index alone. -/
theorem Memory.read?_write_other (m : Memory) {a i : Nat} (h : i ≠ a) (b : Byte) :
    (m.write a b).read? i = m.read? i := by
  induction m with
  | nil => simp [Memory.write, Memory.read?, Ne.symm h]
  | cons c rest ih =>
    simp only [Memory.write]
    split
    · simp [Memory.read?, Ne.symm h]
    · split
      · next hc => subst hc; simp [Memory.read?, Ne.symm h]
      · simp only [Memory.read?, ih]

/-- Bytes written from `a` on leave the indices below `a` alone. -/
theorem Memory.read?_writeBytes_below (m : Memory) {a i : Nat} (h : i < a) (bytes : List Byte) :
    (m.writeBytes a bytes).read? i = m.read? i := by
  induction bytes generalizing m a with
  | nil => rfl
  | cons b rest ih =>
    simp only [Memory.writeBytes]
    rw [ih (m.write a b) (by omega), Memory.read?_write_other m (by omega) b]

/-- Bytes written from `a` on leave the indices past their end alone. -/
theorem Memory.read?_writeBytes_above (m : Memory) {a i : Nat} {bytes : List Byte} (h : a + bytes.length ≤ i) :
    (m.writeBytes a bytes).read? i = m.read? i := by
  induction bytes generalizing m a with
  | nil => rfl
  | cons b rest ih =>
    simp only [List.length_cons] at h
    simp only [Memory.writeBytes]
    rw [ih (m.write a b) (by omega), Memory.read?_write_other m (by omega) b]

/-- Bytes written from `a` on are read back at their indices. -/
theorem Memory.read?_writeBytes_at (m : Memory) (a j : Nat) (bytes : List Byte) (h : j < bytes.length) :
    (m.writeBytes a bytes).read? (a + j) = some (bytes[j]) := by
  induction bytes generalizing m a j with
  | nil => simp at h
  | cons b rest ih =>
    simp only [Memory.writeBytes]
    cases j with
    | zero =>
      rw [Memory.read?_writeBytes_below _ (by omega)]
      exact Memory.read?_write_self m a b
    | succ j =>
      simp only [List.length_cons] at h
      rw [show a + (j + 1) = (a + 1) + j by omega, ih (m.write a b) (a + 1) j (by omega)]
      rfl

/-- TXBUF in the reset state is in canonical form. -/
theorem State.reset_txbuf_wf : State.reset.txbuf.wf = true := rfl

end Sys2Proof.Machine
end

