-- ==== Sys2Proof/Laws/State.lean ====
section
/-! SUPPORT. One lemma per field per update of the state: what each setter writes and what it leaves. -/

namespace Sys2Proof.Machine

@[simp] theorem State.setCtrl_ctrl (s : State) (v : Ctrl) : (s.setCtrl v).ctrl = v := rfl
@[simp] theorem State.setCtrl_status (s : State) (v : Ctrl) : (s.setCtrl v).status = s.status := rfl
@[simp] theorem State.setCtrl_fanCmd (s : State) (v : Ctrl) : (s.setCtrl v).fanCmd = s.fanCmd := rfl
@[simp] theorem State.setCtrl_fanReps (s : State) (v : Ctrl) : (s.setCtrl v).fanReps = s.fanReps := rfl
@[simp] theorem State.setCtrl_matCmd (s : State) (v : Ctrl) : (s.setCtrl v).matCmd = s.matCmd := rfl
@[simp] theorem State.setCtrl_matReps (s : State) (v : Ctrl) : (s.setCtrl v).matReps = s.matReps := rfl
@[simp] theorem State.setCtrl_zoneMask (s : State) (v : Ctrl) : (s.setCtrl v).zoneMask = s.zoneMask := rfl
@[simp] theorem State.setCtrl_results (s : State) (v : Ctrl) : (s.setCtrl v).results = s.results := rfl
@[simp] theorem State.setCtrl_txbuf (s : State) (v : Ctrl) : (s.setCtrl v).txbuf = s.txbuf := rfl
@[simp] theorem State.setCtrl_seq (s : State) (v : Ctrl) : (s.setCtrl v).seq = s.seq := rfl
@[simp] theorem State.setCtrl_snap (s : State) (v : Ctrl) : (s.setCtrl v).snap = s.snap := rfl
@[simp] theorem State.setCtrl_req (s : State) (v : Ctrl) : (s.setCtrl v).req = s.req := rfl
@[simp] theorem State.setCtrl_history (s : State) (v : Ctrl) : (s.setCtrl v).history = s.history := rfl
@[simp] theorem State.setCtrl_inputs (s : State) (v : Ctrl) : (s.setCtrl v).inputs = s.inputs := rfl
@[simp] theorem State.setCtrl_draws (s : State) (v : Ctrl) : (s.setCtrl v).draws = s.draws := rfl
@[simp] theorem State.setCtrl_epoch (s : State) (v : Ctrl) : (s.setCtrl v).epoch = s.epoch := rfl

@[simp] theorem State.setStatus_ctrl (s : State) (v : Status) : (s.setStatus v).ctrl = s.ctrl := rfl
@[simp] theorem State.setStatus_status (s : State) (v : Status) : (s.setStatus v).status = v := rfl
@[simp] theorem State.setStatus_fanCmd (s : State) (v : Status) : (s.setStatus v).fanCmd = s.fanCmd := rfl
@[simp] theorem State.setStatus_fanReps (s : State) (v : Status) : (s.setStatus v).fanReps = s.fanReps := rfl
@[simp] theorem State.setStatus_matCmd (s : State) (v : Status) : (s.setStatus v).matCmd = s.matCmd := rfl
@[simp] theorem State.setStatus_matReps (s : State) (v : Status) : (s.setStatus v).matReps = s.matReps := rfl
@[simp] theorem State.setStatus_zoneMask (s : State) (v : Status) : (s.setStatus v).zoneMask = s.zoneMask := rfl
@[simp] theorem State.setStatus_results (s : State) (v : Status) : (s.setStatus v).results = s.results := rfl
@[simp] theorem State.setStatus_txbuf (s : State) (v : Status) : (s.setStatus v).txbuf = s.txbuf := rfl
@[simp] theorem State.setStatus_seq (s : State) (v : Status) : (s.setStatus v).seq = s.seq := rfl
@[simp] theorem State.setStatus_snap (s : State) (v : Status) : (s.setStatus v).snap = s.snap := rfl
@[simp] theorem State.setStatus_req (s : State) (v : Status) : (s.setStatus v).req = s.req := rfl
@[simp] theorem State.setStatus_history (s : State) (v : Status) : (s.setStatus v).history = s.history := rfl
@[simp] theorem State.setStatus_inputs (s : State) (v : Status) : (s.setStatus v).inputs = s.inputs := rfl
@[simp] theorem State.setStatus_draws (s : State) (v : Status) : (s.setStatus v).draws = s.draws := rfl
@[simp] theorem State.setStatus_epoch (s : State) (v : Status) : (s.setStatus v).epoch = s.epoch := rfl

@[simp] theorem State.setFanCmd_ctrl (s : State) (v : FanCmd) : (s.setFanCmd v).ctrl = s.ctrl := rfl
@[simp] theorem State.setFanCmd_status (s : State) (v : FanCmd) : (s.setFanCmd v).status = s.status := rfl
@[simp] theorem State.setFanCmd_fanCmd (s : State) (v : FanCmd) : (s.setFanCmd v).fanCmd = v := rfl
@[simp] theorem State.setFanCmd_fanReps (s : State) (v : FanCmd) : (s.setFanCmd v).fanReps = s.fanReps := rfl
@[simp] theorem State.setFanCmd_matCmd (s : State) (v : FanCmd) : (s.setFanCmd v).matCmd = s.matCmd := rfl
@[simp] theorem State.setFanCmd_matReps (s : State) (v : FanCmd) : (s.setFanCmd v).matReps = s.matReps := rfl
@[simp] theorem State.setFanCmd_zoneMask (s : State) (v : FanCmd) : (s.setFanCmd v).zoneMask = s.zoneMask := rfl
@[simp] theorem State.setFanCmd_results (s : State) (v : FanCmd) : (s.setFanCmd v).results = s.results := rfl
@[simp] theorem State.setFanCmd_txbuf (s : State) (v : FanCmd) : (s.setFanCmd v).txbuf = s.txbuf := rfl
@[simp] theorem State.setFanCmd_seq (s : State) (v : FanCmd) : (s.setFanCmd v).seq = s.seq := rfl
@[simp] theorem State.setFanCmd_snap (s : State) (v : FanCmd) : (s.setFanCmd v).snap = s.snap := rfl
@[simp] theorem State.setFanCmd_req (s : State) (v : FanCmd) : (s.setFanCmd v).req = s.req := rfl
@[simp] theorem State.setFanCmd_history (s : State) (v : FanCmd) : (s.setFanCmd v).history = s.history := rfl
@[simp] theorem State.setFanCmd_inputs (s : State) (v : FanCmd) : (s.setFanCmd v).inputs = s.inputs := rfl
@[simp] theorem State.setFanCmd_draws (s : State) (v : FanCmd) : (s.setFanCmd v).draws = s.draws := rfl
@[simp] theorem State.setFanCmd_epoch (s : State) (v : FanCmd) : (s.setFanCmd v).epoch = s.epoch := rfl

@[simp] theorem State.setFanReps_ctrl (s : State) (v : BitVec 8) : (s.setFanReps v).ctrl = s.ctrl := rfl
@[simp] theorem State.setFanReps_status (s : State) (v : BitVec 8) : (s.setFanReps v).status = s.status := rfl
@[simp] theorem State.setFanReps_fanCmd (s : State) (v : BitVec 8) : (s.setFanReps v).fanCmd = s.fanCmd := rfl
@[simp] theorem State.setFanReps_fanReps (s : State) (v : BitVec 8) : (s.setFanReps v).fanReps = v := rfl
@[simp] theorem State.setFanReps_matCmd (s : State) (v : BitVec 8) : (s.setFanReps v).matCmd = s.matCmd := rfl
@[simp] theorem State.setFanReps_matReps (s : State) (v : BitVec 8) : (s.setFanReps v).matReps = s.matReps := rfl
@[simp] theorem State.setFanReps_zoneMask (s : State) (v : BitVec 8) : (s.setFanReps v).zoneMask = s.zoneMask := rfl
@[simp] theorem State.setFanReps_results (s : State) (v : BitVec 8) : (s.setFanReps v).results = s.results := rfl
@[simp] theorem State.setFanReps_txbuf (s : State) (v : BitVec 8) : (s.setFanReps v).txbuf = s.txbuf := rfl
@[simp] theorem State.setFanReps_seq (s : State) (v : BitVec 8) : (s.setFanReps v).seq = s.seq := rfl
@[simp] theorem State.setFanReps_snap (s : State) (v : BitVec 8) : (s.setFanReps v).snap = s.snap := rfl
@[simp] theorem State.setFanReps_req (s : State) (v : BitVec 8) : (s.setFanReps v).req = s.req := rfl
@[simp] theorem State.setFanReps_history (s : State) (v : BitVec 8) : (s.setFanReps v).history = s.history := rfl
@[simp] theorem State.setFanReps_inputs (s : State) (v : BitVec 8) : (s.setFanReps v).inputs = s.inputs := rfl
@[simp] theorem State.setFanReps_draws (s : State) (v : BitVec 8) : (s.setFanReps v).draws = s.draws := rfl
@[simp] theorem State.setFanReps_epoch (s : State) (v : BitVec 8) : (s.setFanReps v).epoch = s.epoch := rfl

@[simp] theorem State.setMatCmd_ctrl (s : State) (v : MatCmd) : (s.setMatCmd v).ctrl = s.ctrl := rfl
@[simp] theorem State.setMatCmd_status (s : State) (v : MatCmd) : (s.setMatCmd v).status = s.status := rfl
@[simp] theorem State.setMatCmd_fanCmd (s : State) (v : MatCmd) : (s.setMatCmd v).fanCmd = s.fanCmd := rfl
@[simp] theorem State.setMatCmd_fanReps (s : State) (v : MatCmd) : (s.setMatCmd v).fanReps = s.fanReps := rfl
@[simp] theorem State.setMatCmd_matCmd (s : State) (v : MatCmd) : (s.setMatCmd v).matCmd = v := rfl
@[simp] theorem State.setMatCmd_matReps (s : State) (v : MatCmd) : (s.setMatCmd v).matReps = s.matReps := rfl
@[simp] theorem State.setMatCmd_zoneMask (s : State) (v : MatCmd) : (s.setMatCmd v).zoneMask = s.zoneMask := rfl
@[simp] theorem State.setMatCmd_results (s : State) (v : MatCmd) : (s.setMatCmd v).results = s.results := rfl
@[simp] theorem State.setMatCmd_txbuf (s : State) (v : MatCmd) : (s.setMatCmd v).txbuf = s.txbuf := rfl
@[simp] theorem State.setMatCmd_seq (s : State) (v : MatCmd) : (s.setMatCmd v).seq = s.seq := rfl
@[simp] theorem State.setMatCmd_snap (s : State) (v : MatCmd) : (s.setMatCmd v).snap = s.snap := rfl
@[simp] theorem State.setMatCmd_req (s : State) (v : MatCmd) : (s.setMatCmd v).req = s.req := rfl
@[simp] theorem State.setMatCmd_history (s : State) (v : MatCmd) : (s.setMatCmd v).history = s.history := rfl
@[simp] theorem State.setMatCmd_inputs (s : State) (v : MatCmd) : (s.setMatCmd v).inputs = s.inputs := rfl
@[simp] theorem State.setMatCmd_draws (s : State) (v : MatCmd) : (s.setMatCmd v).draws = s.draws := rfl
@[simp] theorem State.setMatCmd_epoch (s : State) (v : MatCmd) : (s.setMatCmd v).epoch = s.epoch := rfl

@[simp] theorem State.setMatReps_ctrl (s : State) (v : BitVec 8) : (s.setMatReps v).ctrl = s.ctrl := rfl
@[simp] theorem State.setMatReps_status (s : State) (v : BitVec 8) : (s.setMatReps v).status = s.status := rfl
@[simp] theorem State.setMatReps_fanCmd (s : State) (v : BitVec 8) : (s.setMatReps v).fanCmd = s.fanCmd := rfl
@[simp] theorem State.setMatReps_fanReps (s : State) (v : BitVec 8) : (s.setMatReps v).fanReps = s.fanReps := rfl
@[simp] theorem State.setMatReps_matCmd (s : State) (v : BitVec 8) : (s.setMatReps v).matCmd = s.matCmd := rfl
@[simp] theorem State.setMatReps_matReps (s : State) (v : BitVec 8) : (s.setMatReps v).matReps = v := rfl
@[simp] theorem State.setMatReps_zoneMask (s : State) (v : BitVec 8) : (s.setMatReps v).zoneMask = s.zoneMask := rfl
@[simp] theorem State.setMatReps_results (s : State) (v : BitVec 8) : (s.setMatReps v).results = s.results := rfl
@[simp] theorem State.setMatReps_txbuf (s : State) (v : BitVec 8) : (s.setMatReps v).txbuf = s.txbuf := rfl
@[simp] theorem State.setMatReps_seq (s : State) (v : BitVec 8) : (s.setMatReps v).seq = s.seq := rfl
@[simp] theorem State.setMatReps_snap (s : State) (v : BitVec 8) : (s.setMatReps v).snap = s.snap := rfl
@[simp] theorem State.setMatReps_req (s : State) (v : BitVec 8) : (s.setMatReps v).req = s.req := rfl
@[simp] theorem State.setMatReps_history (s : State) (v : BitVec 8) : (s.setMatReps v).history = s.history := rfl
@[simp] theorem State.setMatReps_inputs (s : State) (v : BitVec 8) : (s.setMatReps v).inputs = s.inputs := rfl
@[simp] theorem State.setMatReps_draws (s : State) (v : BitVec 8) : (s.setMatReps v).draws = s.draws := rfl
@[simp] theorem State.setMatReps_epoch (s : State) (v : BitVec 8) : (s.setMatReps v).epoch = s.epoch := rfl

@[simp] theorem State.setZoneMask_ctrl (s : State) (v : BitVec 8) : (s.setZoneMask v).ctrl = s.ctrl := rfl
@[simp] theorem State.setZoneMask_status (s : State) (v : BitVec 8) : (s.setZoneMask v).status = s.status := rfl
@[simp] theorem State.setZoneMask_fanCmd (s : State) (v : BitVec 8) : (s.setZoneMask v).fanCmd = s.fanCmd := rfl
@[simp] theorem State.setZoneMask_fanReps (s : State) (v : BitVec 8) : (s.setZoneMask v).fanReps = s.fanReps := rfl
@[simp] theorem State.setZoneMask_matCmd (s : State) (v : BitVec 8) : (s.setZoneMask v).matCmd = s.matCmd := rfl
@[simp] theorem State.setZoneMask_matReps (s : State) (v : BitVec 8) : (s.setZoneMask v).matReps = s.matReps := rfl
@[simp] theorem State.setZoneMask_zoneMask (s : State) (v : BitVec 8) : (s.setZoneMask v).zoneMask = v := rfl
@[simp] theorem State.setZoneMask_results (s : State) (v : BitVec 8) : (s.setZoneMask v).results = s.results := rfl
@[simp] theorem State.setZoneMask_txbuf (s : State) (v : BitVec 8) : (s.setZoneMask v).txbuf = s.txbuf := rfl
@[simp] theorem State.setZoneMask_seq (s : State) (v : BitVec 8) : (s.setZoneMask v).seq = s.seq := rfl
@[simp] theorem State.setZoneMask_snap (s : State) (v : BitVec 8) : (s.setZoneMask v).snap = s.snap := rfl
@[simp] theorem State.setZoneMask_req (s : State) (v : BitVec 8) : (s.setZoneMask v).req = s.req := rfl
@[simp] theorem State.setZoneMask_history (s : State) (v : BitVec 8) : (s.setZoneMask v).history = s.history := rfl
@[simp] theorem State.setZoneMask_inputs (s : State) (v : BitVec 8) : (s.setZoneMask v).inputs = s.inputs := rfl
@[simp] theorem State.setZoneMask_draws (s : State) (v : BitVec 8) : (s.setZoneMask v).draws = s.draws := rfl
@[simp] theorem State.setZoneMask_epoch (s : State) (v : BitVec 8) : (s.setZoneMask v).epoch = s.epoch := rfl

@[simp] theorem State.setResults_ctrl (s : State) (v : Results) : (s.setResults v).ctrl = s.ctrl := rfl
@[simp] theorem State.setResults_status (s : State) (v : Results) : (s.setResults v).status = s.status := rfl
@[simp] theorem State.setResults_fanCmd (s : State) (v : Results) : (s.setResults v).fanCmd = s.fanCmd := rfl
@[simp] theorem State.setResults_fanReps (s : State) (v : Results) : (s.setResults v).fanReps = s.fanReps := rfl
@[simp] theorem State.setResults_matCmd (s : State) (v : Results) : (s.setResults v).matCmd = s.matCmd := rfl
@[simp] theorem State.setResults_matReps (s : State) (v : Results) : (s.setResults v).matReps = s.matReps := rfl
@[simp] theorem State.setResults_zoneMask (s : State) (v : Results) : (s.setResults v).zoneMask = s.zoneMask := rfl
@[simp] theorem State.setResults_results (s : State) (v : Results) : (s.setResults v).results = v := rfl
@[simp] theorem State.setResults_txbuf (s : State) (v : Results) : (s.setResults v).txbuf = s.txbuf := rfl
@[simp] theorem State.setResults_seq (s : State) (v : Results) : (s.setResults v).seq = s.seq := rfl
@[simp] theorem State.setResults_snap (s : State) (v : Results) : (s.setResults v).snap = s.snap := rfl
@[simp] theorem State.setResults_req (s : State) (v : Results) : (s.setResults v).req = s.req := rfl
@[simp] theorem State.setResults_history (s : State) (v : Results) : (s.setResults v).history = s.history := rfl
@[simp] theorem State.setResults_inputs (s : State) (v : Results) : (s.setResults v).inputs = s.inputs := rfl
@[simp] theorem State.setResults_draws (s : State) (v : Results) : (s.setResults v).draws = s.draws := rfl
@[simp] theorem State.setResults_epoch (s : State) (v : Results) : (s.setResults v).epoch = s.epoch := rfl

@[simp] theorem State.setTxbuf_ctrl (s : State) (v : Memory) : (s.setTxbuf v).ctrl = s.ctrl := rfl
@[simp] theorem State.setTxbuf_status (s : State) (v : Memory) : (s.setTxbuf v).status = s.status := rfl
@[simp] theorem State.setTxbuf_fanCmd (s : State) (v : Memory) : (s.setTxbuf v).fanCmd = s.fanCmd := rfl
@[simp] theorem State.setTxbuf_fanReps (s : State) (v : Memory) : (s.setTxbuf v).fanReps = s.fanReps := rfl
@[simp] theorem State.setTxbuf_matCmd (s : State) (v : Memory) : (s.setTxbuf v).matCmd = s.matCmd := rfl
@[simp] theorem State.setTxbuf_matReps (s : State) (v : Memory) : (s.setTxbuf v).matReps = s.matReps := rfl
@[simp] theorem State.setTxbuf_zoneMask (s : State) (v : Memory) : (s.setTxbuf v).zoneMask = s.zoneMask := rfl
@[simp] theorem State.setTxbuf_results (s : State) (v : Memory) : (s.setTxbuf v).results = s.results := rfl
@[simp] theorem State.setTxbuf_txbuf (s : State) (v : Memory) : (s.setTxbuf v).txbuf = v := rfl
@[simp] theorem State.setTxbuf_seq (s : State) (v : Memory) : (s.setTxbuf v).seq = s.seq := rfl
@[simp] theorem State.setTxbuf_snap (s : State) (v : Memory) : (s.setTxbuf v).snap = s.snap := rfl
@[simp] theorem State.setTxbuf_req (s : State) (v : Memory) : (s.setTxbuf v).req = s.req := rfl
@[simp] theorem State.setTxbuf_history (s : State) (v : Memory) : (s.setTxbuf v).history = s.history := rfl
@[simp] theorem State.setTxbuf_inputs (s : State) (v : Memory) : (s.setTxbuf v).inputs = s.inputs := rfl
@[simp] theorem State.setTxbuf_draws (s : State) (v : Memory) : (s.setTxbuf v).draws = s.draws := rfl
@[simp] theorem State.setTxbuf_epoch (s : State) (v : Memory) : (s.setTxbuf v).epoch = s.epoch := rfl

@[simp] theorem State.setSeq_ctrl (s : State) (v : Seq) : (s.setSeq v).ctrl = s.ctrl := rfl
@[simp] theorem State.setSeq_status (s : State) (v : Seq) : (s.setSeq v).status = s.status := rfl
@[simp] theorem State.setSeq_fanCmd (s : State) (v : Seq) : (s.setSeq v).fanCmd = s.fanCmd := rfl
@[simp] theorem State.setSeq_fanReps (s : State) (v : Seq) : (s.setSeq v).fanReps = s.fanReps := rfl
@[simp] theorem State.setSeq_matCmd (s : State) (v : Seq) : (s.setSeq v).matCmd = s.matCmd := rfl
@[simp] theorem State.setSeq_matReps (s : State) (v : Seq) : (s.setSeq v).matReps = s.matReps := rfl
@[simp] theorem State.setSeq_zoneMask (s : State) (v : Seq) : (s.setSeq v).zoneMask = s.zoneMask := rfl
@[simp] theorem State.setSeq_results (s : State) (v : Seq) : (s.setSeq v).results = s.results := rfl
@[simp] theorem State.setSeq_txbuf (s : State) (v : Seq) : (s.setSeq v).txbuf = s.txbuf := rfl
@[simp] theorem State.setSeq_seq (s : State) (v : Seq) : (s.setSeq v).seq = v := rfl
@[simp] theorem State.setSeq_snap (s : State) (v : Seq) : (s.setSeq v).snap = s.snap := rfl
@[simp] theorem State.setSeq_req (s : State) (v : Seq) : (s.setSeq v).req = s.req := rfl
@[simp] theorem State.setSeq_history (s : State) (v : Seq) : (s.setSeq v).history = s.history := rfl
@[simp] theorem State.setSeq_inputs (s : State) (v : Seq) : (s.setSeq v).inputs = s.inputs := rfl
@[simp] theorem State.setSeq_draws (s : State) (v : Seq) : (s.setSeq v).draws = s.draws := rfl
@[simp] theorem State.setSeq_epoch (s : State) (v : Seq) : (s.setSeq v).epoch = s.epoch := rfl

@[simp] theorem State.setSnap_ctrl (s : State) (v : Option Snapshot) : (s.setSnap v).ctrl = s.ctrl := rfl
@[simp] theorem State.setSnap_status (s : State) (v : Option Snapshot) : (s.setSnap v).status = s.status := rfl
@[simp] theorem State.setSnap_fanCmd (s : State) (v : Option Snapshot) : (s.setSnap v).fanCmd = s.fanCmd := rfl
@[simp] theorem State.setSnap_fanReps (s : State) (v : Option Snapshot) : (s.setSnap v).fanReps = s.fanReps := rfl
@[simp] theorem State.setSnap_matCmd (s : State) (v : Option Snapshot) : (s.setSnap v).matCmd = s.matCmd := rfl
@[simp] theorem State.setSnap_matReps (s : State) (v : Option Snapshot) : (s.setSnap v).matReps = s.matReps := rfl
@[simp] theorem State.setSnap_zoneMask (s : State) (v : Option Snapshot) : (s.setSnap v).zoneMask = s.zoneMask := rfl
@[simp] theorem State.setSnap_results (s : State) (v : Option Snapshot) : (s.setSnap v).results = s.results := rfl
@[simp] theorem State.setSnap_txbuf (s : State) (v : Option Snapshot) : (s.setSnap v).txbuf = s.txbuf := rfl
@[simp] theorem State.setSnap_seq (s : State) (v : Option Snapshot) : (s.setSnap v).seq = s.seq := rfl
@[simp] theorem State.setSnap_snap (s : State) (v : Option Snapshot) : (s.setSnap v).snap = v := rfl
@[simp] theorem State.setSnap_req (s : State) (v : Option Snapshot) : (s.setSnap v).req = s.req := rfl
@[simp] theorem State.setSnap_history (s : State) (v : Option Snapshot) : (s.setSnap v).history = s.history := rfl
@[simp] theorem State.setSnap_inputs (s : State) (v : Option Snapshot) : (s.setSnap v).inputs = s.inputs := rfl
@[simp] theorem State.setSnap_draws (s : State) (v : Option Snapshot) : (s.setSnap v).draws = s.draws := rfl
@[simp] theorem State.setSnap_epoch (s : State) (v : Option Snapshot) : (s.setSnap v).epoch = s.epoch := rfl

@[simp] theorem State.setReq_ctrl (s : State) (v : Option Request) : (s.setReq v).ctrl = s.ctrl := rfl
@[simp] theorem State.setReq_status (s : State) (v : Option Request) : (s.setReq v).status = s.status := rfl
@[simp] theorem State.setReq_fanCmd (s : State) (v : Option Request) : (s.setReq v).fanCmd = s.fanCmd := rfl
@[simp] theorem State.setReq_fanReps (s : State) (v : Option Request) : (s.setReq v).fanReps = s.fanReps := rfl
@[simp] theorem State.setReq_matCmd (s : State) (v : Option Request) : (s.setReq v).matCmd = s.matCmd := rfl
@[simp] theorem State.setReq_matReps (s : State) (v : Option Request) : (s.setReq v).matReps = s.matReps := rfl
@[simp] theorem State.setReq_zoneMask (s : State) (v : Option Request) : (s.setReq v).zoneMask = s.zoneMask := rfl
@[simp] theorem State.setReq_results (s : State) (v : Option Request) : (s.setReq v).results = s.results := rfl
@[simp] theorem State.setReq_txbuf (s : State) (v : Option Request) : (s.setReq v).txbuf = s.txbuf := rfl
@[simp] theorem State.setReq_seq (s : State) (v : Option Request) : (s.setReq v).seq = s.seq := rfl
@[simp] theorem State.setReq_snap (s : State) (v : Option Request) : (s.setReq v).snap = s.snap := rfl
@[simp] theorem State.setReq_req (s : State) (v : Option Request) : (s.setReq v).req = v := rfl
@[simp] theorem State.setReq_history (s : State) (v : Option Request) : (s.setReq v).history = s.history := rfl
@[simp] theorem State.setReq_inputs (s : State) (v : Option Request) : (s.setReq v).inputs = s.inputs := rfl
@[simp] theorem State.setReq_draws (s : State) (v : Option Request) : (s.setReq v).draws = s.draws := rfl
@[simp] theorem State.setReq_epoch (s : State) (v : Option Request) : (s.setReq v).epoch = s.epoch := rfl

@[simp] theorem State.setHistory_ctrl (s : State) (v : List Observed) : (s.setHistory v).ctrl = s.ctrl := rfl
@[simp] theorem State.setHistory_status (s : State) (v : List Observed) : (s.setHistory v).status = s.status := rfl
@[simp] theorem State.setHistory_fanCmd (s : State) (v : List Observed) : (s.setHistory v).fanCmd = s.fanCmd := rfl
@[simp] theorem State.setHistory_fanReps (s : State) (v : List Observed) : (s.setHistory v).fanReps = s.fanReps := rfl
@[simp] theorem State.setHistory_matCmd (s : State) (v : List Observed) : (s.setHistory v).matCmd = s.matCmd := rfl
@[simp] theorem State.setHistory_matReps (s : State) (v : List Observed) : (s.setHistory v).matReps = s.matReps := rfl
@[simp] theorem State.setHistory_zoneMask (s : State) (v : List Observed) : (s.setHistory v).zoneMask = s.zoneMask := rfl
@[simp] theorem State.setHistory_results (s : State) (v : List Observed) : (s.setHistory v).results = s.results := rfl
@[simp] theorem State.setHistory_txbuf (s : State) (v : List Observed) : (s.setHistory v).txbuf = s.txbuf := rfl
@[simp] theorem State.setHistory_seq (s : State) (v : List Observed) : (s.setHistory v).seq = s.seq := rfl
@[simp] theorem State.setHistory_snap (s : State) (v : List Observed) : (s.setHistory v).snap = s.snap := rfl
@[simp] theorem State.setHistory_req (s : State) (v : List Observed) : (s.setHistory v).req = s.req := rfl
@[simp] theorem State.setHistory_history (s : State) (v : List Observed) : (s.setHistory v).history = v := rfl
@[simp] theorem State.setHistory_inputs (s : State) (v : List Observed) : (s.setHistory v).inputs = s.inputs := rfl
@[simp] theorem State.setHistory_draws (s : State) (v : List Observed) : (s.setHistory v).draws = s.draws := rfl
@[simp] theorem State.setHistory_epoch (s : State) (v : List Observed) : (s.setHistory v).epoch = s.epoch := rfl

@[simp] theorem State.setInputs_ctrl (s : State) (v : List Turn) : (s.setInputs v).ctrl = s.ctrl := rfl
@[simp] theorem State.setInputs_status (s : State) (v : List Turn) : (s.setInputs v).status = s.status := rfl
@[simp] theorem State.setInputs_fanCmd (s : State) (v : List Turn) : (s.setInputs v).fanCmd = s.fanCmd := rfl
@[simp] theorem State.setInputs_fanReps (s : State) (v : List Turn) : (s.setInputs v).fanReps = s.fanReps := rfl
@[simp] theorem State.setInputs_matCmd (s : State) (v : List Turn) : (s.setInputs v).matCmd = s.matCmd := rfl
@[simp] theorem State.setInputs_matReps (s : State) (v : List Turn) : (s.setInputs v).matReps = s.matReps := rfl
@[simp] theorem State.setInputs_zoneMask (s : State) (v : List Turn) : (s.setInputs v).zoneMask = s.zoneMask := rfl
@[simp] theorem State.setInputs_results (s : State) (v : List Turn) : (s.setInputs v).results = s.results := rfl
@[simp] theorem State.setInputs_txbuf (s : State) (v : List Turn) : (s.setInputs v).txbuf = s.txbuf := rfl
@[simp] theorem State.setInputs_seq (s : State) (v : List Turn) : (s.setInputs v).seq = s.seq := rfl
@[simp] theorem State.setInputs_snap (s : State) (v : List Turn) : (s.setInputs v).snap = s.snap := rfl
@[simp] theorem State.setInputs_req (s : State) (v : List Turn) : (s.setInputs v).req = s.req := rfl
@[simp] theorem State.setInputs_history (s : State) (v : List Turn) : (s.setInputs v).history = s.history := rfl
@[simp] theorem State.setInputs_inputs (s : State) (v : List Turn) : (s.setInputs v).inputs = v := rfl
@[simp] theorem State.setInputs_draws (s : State) (v : List Turn) : (s.setInputs v).draws = s.draws := rfl
@[simp] theorem State.setInputs_epoch (s : State) (v : List Turn) : (s.setInputs v).epoch = s.epoch := rfl

@[simp] theorem State.setDraws_ctrl (s : State) (v : Nat) : (s.setDraws v).ctrl = s.ctrl := rfl
@[simp] theorem State.setDraws_status (s : State) (v : Nat) : (s.setDraws v).status = s.status := rfl
@[simp] theorem State.setDraws_fanCmd (s : State) (v : Nat) : (s.setDraws v).fanCmd = s.fanCmd := rfl
@[simp] theorem State.setDraws_fanReps (s : State) (v : Nat) : (s.setDraws v).fanReps = s.fanReps := rfl
@[simp] theorem State.setDraws_matCmd (s : State) (v : Nat) : (s.setDraws v).matCmd = s.matCmd := rfl
@[simp] theorem State.setDraws_matReps (s : State) (v : Nat) : (s.setDraws v).matReps = s.matReps := rfl
@[simp] theorem State.setDraws_zoneMask (s : State) (v : Nat) : (s.setDraws v).zoneMask = s.zoneMask := rfl
@[simp] theorem State.setDraws_results (s : State) (v : Nat) : (s.setDraws v).results = s.results := rfl
@[simp] theorem State.setDraws_txbuf (s : State) (v : Nat) : (s.setDraws v).txbuf = s.txbuf := rfl
@[simp] theorem State.setDraws_seq (s : State) (v : Nat) : (s.setDraws v).seq = s.seq := rfl
@[simp] theorem State.setDraws_snap (s : State) (v : Nat) : (s.setDraws v).snap = s.snap := rfl
@[simp] theorem State.setDraws_req (s : State) (v : Nat) : (s.setDraws v).req = s.req := rfl
@[simp] theorem State.setDraws_history (s : State) (v : Nat) : (s.setDraws v).history = s.history := rfl
@[simp] theorem State.setDraws_inputs (s : State) (v : Nat) : (s.setDraws v).inputs = s.inputs := rfl
@[simp] theorem State.setDraws_draws (s : State) (v : Nat) : (s.setDraws v).draws = v := rfl
@[simp] theorem State.setDraws_epoch (s : State) (v : Nat) : (s.setDraws v).epoch = s.epoch := rfl

@[simp] theorem State.record_history (s : State) (e : Observed) : (s.record e).history = s.history ++ [e] := rfl
@[simp] theorem State.record_ctrl (s : State) (e : Observed) : (s.record e).ctrl = s.ctrl := rfl
@[simp] theorem State.record_status (s : State) (e : Observed) : (s.record e).status = s.status := rfl
@[simp] theorem State.record_fanCmd (s : State) (e : Observed) : (s.record e).fanCmd = s.fanCmd := rfl
@[simp] theorem State.record_fanReps (s : State) (e : Observed) : (s.record e).fanReps = s.fanReps := rfl
@[simp] theorem State.record_matCmd (s : State) (e : Observed) : (s.record e).matCmd = s.matCmd := rfl
@[simp] theorem State.record_matReps (s : State) (e : Observed) : (s.record e).matReps = s.matReps := rfl
@[simp] theorem State.record_zoneMask (s : State) (e : Observed) : (s.record e).zoneMask = s.zoneMask := rfl
@[simp] theorem State.record_results (s : State) (e : Observed) : (s.record e).results = s.results := rfl
@[simp] theorem State.record_txbuf (s : State) (e : Observed) : (s.record e).txbuf = s.txbuf := rfl
@[simp] theorem State.record_seq (s : State) (e : Observed) : (s.record e).seq = s.seq := rfl
@[simp] theorem State.record_snap (s : State) (e : Observed) : (s.record e).snap = s.snap := rfl
@[simp] theorem State.record_req (s : State) (e : Observed) : (s.record e).req = s.req := rfl
@[simp] theorem State.record_inputs (s : State) (e : Observed) : (s.record e).inputs = s.inputs := rfl
@[simp] theorem State.record_draws (s : State) (e : Observed) : (s.record e).draws = s.draws := rfl
@[simp] theorem State.record_epoch (s : State) (e : Observed) : (s.record e).epoch = s.epoch := rfl

end Sys2Proof.Machine
end

