-- ==== Sys2Proof/Laws/Ops.lean ====
section
/-! SUPPORT. For each shared operation, the one equation that says everything it does. -/

namespace Sys2Proof.Machine

theorem storeCtrl_eq (op : BitVec 2) (notx irqEn : Bool) (s : State) :
    storeCtrl op notx irqEn s = { s with ctrl := { op := op, notx := notx, irqEn := irqEn } } := rfl

theorem setOvr_eq (s : State) : setOvr s = { s with status := { s.status with ovr := true } } := rfl

theorem start_eq (op : BitVec 2) (s : State) :
    start op s = { s with
      snap := some (s.snapshot op)
      status := { s.status with done := false, err := .ok, lastOp := op }
      seq := .compute } := rfl

theorem requestStart_idle {s : State} (h : s.seq = .idle) (op : BitVec 2) : requestStart op s = start op s := by
  simp [requestStart, h]

theorem requestStart_busy {s : State} (h : s.seq ≠ .idle) (op : BitVec 2) : requestStart op s = setOvr s := by
  simp [requestStart, h]

theorem complete_eq (e : ErrCode) (s : State) :
    complete e s = { s with seq := .idle, status := { s.status with err := e, done := true } } := rfl

theorem issue_eq (s : State) :
    issue s = { s with
      req := some s.request
      history := s.history ++ [.transmit s.request]
      seq := .txWait } := rfl

theorem finish_true (s : State) : finish true s = complete .ok s := rfl

theorem finish_false (s : State) : finish false s = issue s := rfl

/-- The two ends of a build: everything a build or its end leaves alone. -/
theorem finish_build_frame (notx : Bool) (f : BitString) (n : Nat) (syms : BitString) (freq : BitVec 32)
    (rate : BitVec 16) (modn : BitVec 2) (s : State) :
    let t := finish notx (build f n syms freq rate modn s)
    t.ctrl = s.ctrl ∧ t.fanCmd = s.fanCmd ∧ t.fanReps = s.fanReps ∧ t.matCmd = s.matCmd ∧ t.matReps = s.matReps ∧
    t.zoneMask = s.zoneMask ∧ t.snap = s.snap ∧ t.inputs = s.inputs ∧ t.draws = s.draws ∧ t.epoch = s.epoch ∧
    t.status.ovr = s.status.ovr ∧ t.status.lastOp = s.status.lastOp ∧
    t.txbuf = s.txbuf.writeBytes 0 (pack syms) := by
  cases notx <;> simp [finish, complete, issue, build]

/-- Everything the fan compute step can do: not enabled it does nothing, and enabled it ends in one of the four ways
of R225. -/
theorem fanCompute_cases (f : Option BitString) (s : State) :
    (fanCompute f s = s ∧ ∀ sn, s.seq = .compute → s.snap = some sn → sn.op ≠ 0b01#2) ∨
    ∃ sn, s.seq = .compute ∧ s.snap = some sn ∧ sn.op = 0b01#2 ∧
      ((sn.fanReps = 0#8 ∧ fanCompute f s = complete .invalidRepeat s) ∨
       (sn.fanReps ≠ 0#8 ∧ f = none ∧ fanCompute f s = complete .invalidAction s) ∨
       ∃ field, sn.fanReps ≠ 0#8 ∧ f = some field ∧
         fanCompute f s = finish sn.notx
           (build field 13 (fanModulate field sn.fanReps.toNat) fanFreq fanRate askOok s)) := by
  cases hseq : s.seq <;> cases hsnap : s.snap
  case compute.some sn =>
    by_cases hop : sn.op = 0b01#2
    · refine .inr ⟨sn, rfl, rfl, hop, ?_⟩
      by_cases hr : sn.fanReps = 0#8
      · exact .inl ⟨hr, by simp [fanCompute, hseq, hsnap, hop, hr]⟩
      · cases f with
        | none => exact .inr (.inl ⟨hr, rfl, by simp [fanCompute, hseq, hsnap, hop, hr]⟩)
        | some field => exact .inr (.inr ⟨field, hr, rfl, by simp [fanCompute, hseq, hsnap, hop, hr]⟩)
    · refine .inl ⟨by simp [fanCompute, hseq, hsnap, hop], ?_⟩
      intro sn' _ h
      cases h
      exact hop
  all_goals exact .inl ⟨by simp [fanCompute, hseq, hsnap], by simp⟩

/-- Everything the mattress compute step can do (R226). -/
theorem matCompute_cases (s : State) :
    (matCompute s = s ∧ ∀ sn, s.seq = .compute → s.snap = some sn → sn.op ≠ 0b10#2) ∨
    ∃ sn, s.seq = .compute ∧ s.snap = some sn ∧ sn.op = 0b10#2 ∧
      ((sn.matReps = 0#8 ∧ matCompute s = complete .invalidRepeat s) ∨
       (sn.matReps ≠ 0#8 ∧ sn.zoneAccepted = false ∧ matCompute s = complete .invalidZone s) ∨
       (sn.matReps ≠ 0#8 ∧ sn.zoneAccepted = true ∧
         matCompute s = finish sn.notx
           (build (matEncode sn.matCmd) 25 (matModulate (matEncode sn.matCmd) sn.matReps.toNat) matFreq matRate
             askOok s))) := by
  cases hseq : s.seq <;> cases hsnap : s.snap
  case compute.some sn =>
    by_cases hop : sn.op = 0b10#2
    · refine .inr ⟨sn, rfl, rfl, hop, ?_⟩
      by_cases hr : sn.matReps = 0#8
      · exact .inl ⟨hr, by simp [matCompute, hseq, hsnap, hop, hr]⟩
      · cases hz : sn.zoneAccepted
        · exact .inr (.inl ⟨hr, rfl, by simp [matCompute, hseq, hsnap, hop, hr, hz]⟩)
        · exact .inr (.inr ⟨hr, rfl, by simp [matCompute, hseq, hsnap, hop, hr, hz]⟩)
    · refine .inl ⟨by simp [matCompute, hseq, hsnap, hop], ?_⟩
      intro sn' _ h
      cases h
      exact hop
  all_goals exact .inl ⟨by simp [matCompute, hseq, hsnap], by simp⟩

theorem reservedCompute_compute {s : State} (h : s.seq = .compute) : reservedCompute s = complete .illegalOp s := by
  simp [reservedCompute, h]

theorem reservedCompute_other {s : State} (h : s.seq ≠ .compute) : reservedCompute s = s := by
  unfold reservedCompute
  split <;> simp_all

theorem radioAnswer_txWait {s : State} (h : s.seq = .txWait) (ans : RadioAnswer) :
    radioAnswer ans s = complete ans.err (s.setReq none) := by
  simp [radioAnswer, h]

theorem radioAnswer_other {s : State} (h : s.seq ≠ .txWait) (ans : RadioAnswer) : radioAnswer ans s = s := by
  unfold radioAnswer
  split <;> simp_all

theorem portFault_none_iff (width offset : Nat) :
    portFault width offset = none ↔ width = 32 ∧ offset % 4 = 0 ∧ offset ≤ 0x1FFF := by
  unfold portFault
  split <;> simp_all

theorem portFault_some {width offset : Nat} {e : Fault} (h : portFault width offset = some e) :
    e = .busError offset := by
  unfold portFault at h
  split at h <;> simp_all

/-- A legal read: nothing but the history, and the counter of a drawn value, changes (R68). -/
theorem readPort_eq (offset : Nat) (s : State) :
    readPort offset s = { s with
      history := s.history ++ [.readData offset
        (if s.readIsFree offset then Config.freeRead s.draws else s.storedWord offset)]
      draws := if s.readIsFree offset then s.draws + 1 else s.draws } := by
  unfold readPort
  split <;> rfl

/-- A register write changes a command register or nothing. -/
theorem writeReg_cases (offset : Nat) (w : Word) (s : State) :
    (offset = 0x08 ∧ writeReg offset w s = s.setFanCmd (FanCmd.ofWord w)) ∨
    (offset = 0x0C ∧ writeReg offset w s = s.setFanReps (lowByte w)) ∨
    (offset = 0x10 ∧ writeReg offset w s = s.setMatCmd (MatCmd.ofWord w)) ∨
    (offset = 0x14 ∧ writeReg offset w s = s.setMatReps (lowByte w)) ∨
    (offset = 0x18 ∧ writeReg offset w s = s.setZoneMask (lowByte w)) ∨
    writeReg offset w s = s := by
  unfold writeReg
  split <;> simp

theorem decodePort_cases (offset : Nat) (w : Word) :
    (offset = ctrlOffset ∧ decodePort offset w = .ok (decode .ctrlCmd w)) ∨
    (offset = statusOffset ∧ decodePort offset w = .ok (decode .statusW1c w)) ∨
    (offset ≠ ctrlOffset ∧ offset ≠ statusOffset ∧ decodePort offset w = .error (.noInstructionAt offset)) := by
  unfold decodePort
  split
  · simp_all
  · split <;> simp_all

end Sys2Proof.Machine
end

