-- ==== Sys2Proof/Laws/Build.lean ====
section
/-! SUPPORT. What a build and its end do to TXBUF, and what the request then holds (R229, R230). -/

namespace Sys2Proof.Machine

@[simp] theorem finish_results (notx : Bool) (s : State) : (finish notx s).results = s.results := by
  cases notx <;> rfl

@[simp] theorem finish_txbuf (notx : Bool) (s : State) : (finish notx s).txbuf = s.txbuf := by
  cases notx <;> rfl

@[simp] theorem finish_epoch (notx : Bool) (s : State) : (finish notx s).epoch = s.epoch := by
  cases notx <;> rfl

theorem length_pack (bits : BitString) : (pack bits).length = (bits.length + 7) / 8 := by simp [pack]

/-- A byte of the buffer just written. -/
theorem txbufByte_written {s t : State} {bytes : List Byte} (h : t.txbuf = s.txbuf.writeBytes 0 bytes) (j : Nat)
    (hj : j < bytes.length) : t.txbufByte j = bytes[j] := by
  have e := Memory.read?_writeBytes_at s.txbuf 0 j bytes hj
  rw [Nat.zero_add] at e
  simp [State.txbufByte, h, e]

/-- A byte past the buffer just written. -/
theorem txbufByte_past {s t : State} {bytes : List Byte} (h : t.txbuf = s.txbuf.writeBytes 0 bytes)
    (he : t.epoch = s.epoch) (j : Nat) (hj : bytes.length ≤ j) : t.txbufByte j = s.txbufByte j := by
  have e := Memory.read?_writeBytes_above s.txbuf (a := 0) (i := j) (bytes := bytes) (by omega)
  simp [State.txbufByte, h, e, he]

/-- The request after a build holds the packed bytes and the build's parameters (R230). -/
theorem request_build {syms : BitString} (hl : (pack syms).length < 8192) (f : BitString) (n : Nat)
    (freq : BitVec 32) (rate : BitVec 16) (modn : BitVec 2) (s : State) :
    (build f n syms freq rate modn s).request
      = { bytes := pack syms, freq := freq, rate := rate, modn := modn } := by
  have hb : (build f n syms freq rate modn s).results.byteLen.toNat = (pack syms).length := by
    show (BitVec.ofNat 13 _).toNat = _
    rw [BitVec.toNat_ofNat, Nat.mod_eq_of_lt hl]
  have e : (build f n syms freq rate modn s).txbufPrefix (pack syms).length = pack syms := by
    apply List.ext_getElem
    · simp [State.txbufPrefix]
    · intro j h1 h2
      simp only [State.txbufPrefix, List.getElem_map, List.getElem_range]
      exact txbufByte_written (s := s) rfl j h2
  unfold State.request
  rw [hb, e]
  rfl

end Sys2Proof.Machine
end

