-- ==== Sys2Proof/Laws/Decode.lean ====
section
/-! SUPPORT. The fields of the words the encoder makes, read back (R81, R83). -/

namespace Sys2Proof

@[simp] theorem fanWord_action_field (action : BitVec 4) (len : Bool) (addr : BitVec 5) :
    (fanWord action len addr).extractLsb' 8 4 = action := by
  ext i hi
  have : i < 4 := hi
  interval_cases i <;> cases len <;> simp [fanWord, bitWord]

@[simp] theorem fanWord_len_field (action : BitVec 4) (len : Bool) (addr : BitVec 5) :
    (fanWord action len addr).getLsbD 7 = len := by
  cases len <;> simp [fanWord, bitWord]

@[simp] theorem fanWord_addr_field (action : BitVec 4) (len : Bool) (addr : BitVec 5) :
    (fanWord action len addr).extractLsb' 0 5 = addr := by
  ext i hi
  have : i < 5 := hi
  interval_cases i <;> cases len <;> simp [fanWord, bitWord]

end Sys2Proof
end

