-- ==== Sys2Proof/Laws/Step.lean ====
section
/-! SUPPORT. Everything a turn and a step can do, said once. -/

namespace Sys2Proof.Machine

theorem step_turn {s : State} {t : Turn} {rest : List Turn} (h : s.inputs = t :: rest) :
    step s = takeTurn t (s.setInputs rest) := by
  simp [step, h]

theorem step_quiet {s : State} (h : s.inputs = []) : step s = quietTurn s := by
  simp [step, h]

/-- With no turn given, a pending request is answered (R276). -/
theorem quietTurn_txWait {s : State} (h : s.seq = .txWait) :
    quietTurn s = .next (complete (drawnAnswer s.draws).err ((s.setDraws (s.draws + 1)).setReq none)) := by
  simp [quietTurn, h, radioAnswer]

/-- With no turn given and no request pending, the turn is the sequencer's. -/
theorem quietTurn_other {s : State} (h : s.seq ≠ .txWait) : quietTurn s = sequencerTurn s := by
  unfold quietTurn
  split
  · exact absurd (by assumption) h
  · rfl

/-- A START instruction: its OP is stored and requested (R222, R223, R224). -/
theorem exec_start (w : Word) (h31 : w.getLsbD 31 = false) (h0 : w.getLsbD 0 = true) (s : State) :
    exec (decode .ctrlCmd w) s = .next
      (requestStart (w.extractLsb' 1 2) (storeCtrl (w.extractLsb' 1 2) (w.getLsbD 3) (w.getLsbD 4) s)) := by
  have four : ∀ o : BitVec 2, o = 0#2 ∨ o = 1#2 ∨ o = 2#2 ∨ o = 3#2 := by decide
  rcases four (ctrlOpOf w) with h | h | h | h <;>
    simp only [decode, decodeCtrl, h31, h0, h, Bool.false_eq_true, if_true, if_false] <;>
    (unfold ctrlOpOf at h; rw [h]; rfl)

/-- An SRST instruction (R233, R224). -/
theorem exec_srst (w : Word) (h31 : w.getLsbD 31 = true) (s : State) :
    exec (decode .ctrlCmd w) s = .next
      (if s.seq = .idle then softReset s
        else setOvr (storeCtrl (w.extractLsb' 1 2) (w.getLsbD 3) (w.getLsbD 4) s)) := by
  simp only [decode, decodeCtrl, h31, if_true]
  rfl

/-- A plain CTRL write (R222). -/
theorem exec_plain (w : Word) (h31 : w.getLsbD 31 = false) (h0 : w.getLsbD 0 = false) (s : State) :
    exec (decode .ctrlCmd w) s = .next (storeCtrl (w.extractLsb' 1 2) (w.getLsbD 3) (w.getLsbD 4) s) := by
  simp only [decode, decodeCtrl, h31, h0, Bool.false_eq_true, if_false]
  rfl

/-- The fan compute step of a snapshot is R225 over FAN_ENCODE of its operands. -/
theorem exec_fanInstr (sn : Snapshot) (s : State) :
    exec sn.fanInstr s =
      .next (fanCompute (fanEncode (addrString sn.fanCmd.addrLen sn.fanCmd.addr) sn.fanCmd.action) s) := by
  have sixteen : ∀ a : BitVec 4, a = 0#4 ∨ a = 1#4 ∨ a = 2#4 ∨ a = 3#4 ∨ a = 4#4 ∨ a = 5#4 ∨ a = 6#4 ∨ a = 7#4 ∨
      a = 8#4 ∨ a = 9#4 ∨ a = 10#4 ∨ a = 11#4 ∨ a = 12#4 ∨ a = 13#4 ∨ a = 14#4 ∨ a = 15#4 := by decide
  simp only [Snapshot.fanInstr, decode, decodeFan, FanCmd.toWord, fanWord_action_field, fanWord_len_field,
    fanWord_addr_field]
  rcases sixteen sn.fanCmd.action with h | h | h | h | h | h | h | h | h | h | h | h | h | h | h | h <;>
    simp only [h] <;> rfl

/-- The error of an operation that fails one of its checks, in the order of R269, or none where it builds. -/
def Snapshot.checkErr (sn : Snapshot) : Option ErrCode :=
  if sn.op = 0b01#2 then
    if sn.fanReps = 0#8 then some .invalidRepeat
    else if (fanCode sn.fanCmd.action).isNone then some .invalidAction
    else none
  else if sn.op = 0b10#2 then
    if sn.matReps = 0#8 then some .invalidRepeat
    else if sn.zoneAccepted then none
    else some .invalidZone
  else some .illegalOp

/-- The sequencer's turn that is not enabled. -/
theorem sequencerTurn_other {s : State} (h : ∀ sn, s.seq = .compute → s.snap ≠ some sn) :
    sequencerTurn s = .next s := by
  unfold sequencerTurn
  split
  · next sn h1 h2 => exact absurd h2 (h sn h1)
  · rfl

/-- Everything an enabled compute step can do: it completes with the first failing check, or builds the fan or the
mattress stream and ends the build (R225 to R228, R269). -/
theorem sequencerTurn_enabled {s : State} {sn : Snapshot} (h1 : s.seq = .compute) (h2 : s.snap = some sn) :
    (∃ e, sn.checkErr = some e ∧ sequencerTurn s = .next (complete e s)) ∨
    (∃ f, sn.checkErr = none ∧ sn.op = 0b01#2 ∧ sn.fanReps ≠ 0#8 ∧
      fanEncode (addrString sn.fanCmd.addrLen sn.fanCmd.addr) sn.fanCmd.action = some f ∧
      sequencerTurn s =
        .next (finish sn.notx (build f 13 (fanModulate f sn.fanReps.toNat) fanFreq fanRate askOok s))) ∨
    (sn.checkErr = none ∧ sn.op = 0b10#2 ∧ sn.matReps ≠ 0#8 ∧ sn.zoneAccepted = true ∧
      sequencerTurn s =
        .next (finish sn.notx (build (matEncode sn.matCmd) 25
          (matModulate (matEncode sn.matCmd) sn.matReps.toNat) matFreq matRate askOok s))) := by
  by_cases hf : sn.op = 0b01#2
  · have e : sequencerTurn s = exec sn.fanInstr s := by simp [sequencerTurn, h1, h2, hf]
    rw [e, exec_fanInstr]
    by_cases hr : sn.fanReps = 0#8
    · exact .inl ⟨.invalidRepeat, by simp [Snapshot.checkErr, hf, hr], by simp [fanCompute, h1, h2, hf, hr]⟩
    · cases hc : fanCode sn.fanCmd.action with
      | none =>
        exact .inl ⟨.invalidAction, by simp [Snapshot.checkErr, hf, hr, hc],
          by simp [fanCompute, h1, h2, hf, hr, fanEncode, hc]⟩
      | some c =>
        refine .inr (.inl ⟨_, by simp [Snapshot.checkErr, hf, hr, hc], hf, hr, by simp [fanEncode, hc]; rfl, ?_⟩)
        simp [fanCompute, h1, h2, hf, hr, fanEncode, hc]
  · by_cases hm : sn.op = 0b10#2
    · have e : sequencerTurn s = .next (matCompute s) := by simp [sequencerTurn, h1, h2, hm]
      rw [e]
      by_cases hr : sn.matReps = 0#8
      · exact .inl ⟨.invalidRepeat, by simp [Snapshot.checkErr, hm, hr], by simp [matCompute, h1, h2, hm, hr]⟩
      · cases hz : sn.zoneAccepted
        · exact .inl ⟨.invalidZone, by simp [Snapshot.checkErr, hm, hr, hz],
            by simp [matCompute, h1, h2, hm, hr, hz]⟩
        · exact .inr (.inr ⟨by simp [Snapshot.checkErr, hm, hr, hz], hm, hr, rfl,
            by simp [matCompute, h1, h2, hm, hr, hz]⟩)
    · exact .inl ⟨.illegalOp, by simp [Snapshot.checkErr, hf, hm],
        by simp [sequencerTurn, h1, h2, hf, hm, reservedCompute]⟩

/-- Everything the host's turn can do. -/
theorem hostTurn_cases (a : HostAccess) (s : State) :
    (∃ width offset, ¬ (width = 32 ∧ offset % 4 = 0 ∧ offset ≤ 0x1FFF) ∧
      (a = .read width offset ∨ ∃ w, a = .write width offset w) ∧ hostTurn a s = .fault (.busError offset)) ∨
    (∃ offset, a = .read 32 offset ∧ offset % 4 = 0 ∧ offset ≤ 0x1FFF ∧ hostTurn a s = .next (readPort offset s)) ∨
    (∃ w, a = .write 32 0x00 w ∧ hostTurn a s = exec (decode .ctrlCmd w) s) ∨
    (∃ w, a = .write 32 0x04 w ∧ hostTurn a s = exec (decode .statusW1c w) s) ∨
    (∃ offset w, a = .write 32 offset w ∧ offset ≠ 0x00 ∧ offset ≠ 0x04 ∧ offset % 4 = 0 ∧ offset ≤ 0x1FFF ∧
      hostTurn a s = .next (writeReg offset w s)) := by
  cases a with
  | read width offset =>
    by_cases h : width = 32 ∧ offset % 4 = 0 ∧ offset ≤ 0x1FFF
    · obtain ⟨rfl, h2, h3⟩ := h
      exact .inr (.inl ⟨offset, rfl, h2, h3, by simp [hostTurn, portFault, h2, h3]⟩)
    · exact .inl ⟨width, offset, h, .inl rfl, by simp only [hostTurn, portFault, if_neg h]⟩
  | write width offset w =>
    by_cases h : width = 32 ∧ offset % 4 = 0 ∧ offset ≤ 0x1FFF
    · obtain ⟨rfl, h2, h3⟩ := h
      rcases decodePort_cases offset w with ⟨rfl, e⟩ | ⟨rfl, e⟩ | ⟨n1, n2, e⟩
      · exact .inr (.inr (.inl ⟨w, rfl, by simp [hostTurn, portFault, h2, h3, e]⟩))
      · exact .inr (.inr (.inr (.inl ⟨w, rfl, by simp [hostTurn, portFault, h2, h3, e]⟩)))
      · exact .inr (.inr (.inr (.inr ⟨offset, w, rfl, n1, n2, h2, h3, by simp [hostTurn, portFault, h2, h3, e]⟩)))
    · exact .inl ⟨width, offset, h, .inr ⟨w, rfl⟩, by simp only [hostTurn, portFault, if_neg h]⟩

/-- Everything a step with a next state can do: the head of `inputs` says whose turn it was, and with no turn given it
was the radio's where a request is pending and the sequencer's elsewhere. -/
theorem step_cases {s t : State} (h : step s = .next t) :
    (s.inputs.head? = some .hardwareReset ∧ t = hardwareReset (s.setInputs s.inputs.tail)) ∨
    (∃ offset, s.inputs.head? = some (.host (.read 32 offset)) ∧ t = readPort offset (s.setInputs s.inputs.tail)) ∨
    (∃ w, s.inputs.head? = some (.host (.write 32 0x00 w)) ∧
      exec (decode .ctrlCmd w) (s.setInputs s.inputs.tail) = .next t) ∨
    (∃ w, s.inputs.head? = some (.host (.write 32 0x04 w)) ∧
      exec (decode .statusW1c w) (s.setInputs s.inputs.tail) = .next t) ∨
    (∃ offset w, s.inputs.head? = some (.host (.write 32 offset w)) ∧ offset ≠ 0x00 ∧ offset ≠ 0x04 ∧
      t = writeReg offset w (s.setInputs s.inputs.tail)) ∨
    (∃ ans, s.inputs.head? = some (.radio ans) ∧ t = radioAnswer ans (s.setInputs s.inputs.tail)) ∨
    (s.inputs = [] ∧ s.seq = .txWait ∧
      t = complete (drawnAnswer s.draws).err ((s.setDraws (s.draws + 1)).setReq none)) ∨
    ((s.inputs = [] ∨ s.inputs.head? = some .sequencer) ∧
      sequencerTurn (s.setInputs s.inputs.tail) = .next t) := by
  cases hi : s.inputs with
  | nil =>
    rw [step_quiet hi] at h
    have e : s.setInputs [] = s := by cases s; cases hi; rfl
    by_cases hw : s.seq = .txWait
    · rw [quietTurn_txWait hw] at h
      cases h
      exact .inr (.inr (.inr (.inr (.inr (.inr (.inl ⟨rfl, hw, rfl⟩))))))
    · rw [quietTurn_other hw] at h
      refine .inr (.inr (.inr (.inr (.inr (.inr (.inr ⟨.inl rfl, ?_⟩))))))
      rw [List.tail_nil, e, h]
  | cons a rest =>
    rw [step_turn hi] at h
    cases a with
    | sequencer => exact .inr (.inr (.inr (.inr (.inr (.inr (.inr ⟨.inr rfl, h⟩))))))
    | radio ans => cases h; exact .inr (.inr (.inr (.inr (.inr (.inl ⟨ans, rfl, rfl⟩)))))
    | hardwareReset => cases h; exact .inl ⟨rfl, rfl⟩
    | host a =>
      simp only [takeTurn] at h
      rcases hostTurn_cases a (s.setInputs rest) with ⟨w, o, -, -, e⟩ | ⟨o, rfl, -, -, e⟩ | ⟨w, rfl, e⟩ | ⟨w, rfl, e⟩ |
        ⟨o, w, rfl, n1, n2, -, -, e⟩
      · rw [e] at h; cases h
      · rw [e] at h; cases h; exact .inr (.inl ⟨o, rfl, rfl⟩)
      · rw [e] at h; exact .inr (.inr (.inl ⟨w, rfl, h⟩))
      · rw [e] at h; exact .inr (.inr (.inr (.inl ⟨w, rfl, h⟩)))
      · rw [e] at h; cases h; exact .inr (.inr (.inr (.inr (.inl ⟨o, w, rfl, n1, n2, rfl⟩))))

/-- Everything the sequencer's turn can do to the state: nothing, or one of the three ends of a compute step. -/
theorem sequencerTurn_next {s t : State} (h : sequencerTurn s = .next t) :
    t = s ∨ (s.seq = .compute ∧ ∃ sn, s.snap = some sn ∧
      ((∃ e, sn.checkErr = some e ∧ t = complete e s) ∨
       (∃ f, sn.checkErr = none ∧ sn.op = 0b01#2 ∧ sn.fanReps ≠ 0#8 ∧
         fanEncode (addrString sn.fanCmd.addrLen sn.fanCmd.addr) sn.fanCmd.action = some f ∧
         t = finish sn.notx (build f 13 (fanModulate f sn.fanReps.toNat) fanFreq fanRate askOok s)) ∨
       (sn.checkErr = none ∧ sn.op = 0b10#2 ∧ sn.matReps ≠ 0#8 ∧ sn.zoneAccepted = true ∧
         t = finish sn.notx (build (matEncode sn.matCmd) 25
           (matModulate (matEncode sn.matCmd) sn.matReps.toNat) matFreq matRate askOok s)))) := by
  by_cases hc : ∃ sn, s.seq = .compute ∧ s.snap = some sn
  · obtain ⟨sn, h1, h2⟩ := hc
    refine .inr ⟨h1, sn, h2, ?_⟩
    rcases sequencerTurn_enabled h1 h2 with ⟨e, a, b⟩ | ⟨f, a, b, c, d, e⟩ | ⟨a, b, c, d, e⟩
    · rw [b] at h; cases h; exact .inl ⟨e, a, rfl⟩
    · rw [e] at h; cases h; exact .inr (.inl ⟨f, a, b, c, d, rfl⟩)
    · rw [e] at h; cases h; exact .inr (.inr ⟨a, b, c, d, rfl⟩)
  · left
    rw [sequencerTurn_other (by intro sn a b; exact hc ⟨sn, a, b⟩)] at h
    cases h
    rfl

/-- Everything a write of CTRL can do: the soft reset, an accepted START, a request turned away, or the plain store
(R221 to R224, R233). -/
theorem exec_ctrl_cases (w : Word) (s : State) :
    (w.getLsbD 31 = true ∧ s.seq = .idle ∧ exec (decode .ctrlCmd w) s = .next (softReset s)) ∨
    (w.getLsbD 31 = false ∧ w.getLsbD 0 = true ∧ s.seq = .idle ∧ exec (decode .ctrlCmd w) s =
      .next (start (w.extractLsb' 1 2) (storeCtrl (w.extractLsb' 1 2) (w.getLsbD 3) (w.getLsbD 4) s))) ∨
    (s.seq ≠ .idle ∧ exec (decode .ctrlCmd w) s =
      .next (setOvr (storeCtrl (w.extractLsb' 1 2) (w.getLsbD 3) (w.getLsbD 4) s))) ∨
    exec (decode .ctrlCmd w) s = .next (storeCtrl (w.extractLsb' 1 2) (w.getLsbD 3) (w.getLsbD 4) s) := by
  cases h31 : w.getLsbD 31
  · cases h0 : w.getLsbD 0
    · exact .inr (.inr (.inr (exec_plain w h31 h0 s)))
    · by_cases hs : s.seq = .idle
      · refine .inr (.inl ⟨rfl, rfl, hs, ?_⟩)
        rw [exec_start w h31 h0, requestStart_idle]
        exact hs
      · refine .inr (.inr (.inl ⟨hs, ?_⟩))
        rw [exec_start w h31 h0, requestStart_busy]
        exact hs
  · by_cases hs : s.seq = .idle
    · refine .inl ⟨rfl, hs, ?_⟩
      rw [exec_srst w h31, if_pos hs]
    · refine .inr (.inr (.inl ⟨hs, ?_⟩))
      rw [exec_srst w h31, if_neg hs]

end Sys2Proof.Machine
end

