-- ==== Sys2Proof/Laws/Fairness.lean ====
section
/-! SUPPORT. The radio is weakly fair: a pending request is answered once the turns given run out, if not before
(R276). -/

namespace Sys2Proof.Machine

/-- A step in TX_WAIT with a legal turn: it has a next state, takes the turn off, and stays in TX_WAIT or reaches
IDLE. -/
theorem step_txWait {s : State} {a : Turn} {rest : List Turn} (h : s.seq = .txWait) (hi : s.inputs = a :: rest)
    (ha : a.legal = true) : ∃ t, step s = .next t ∧ t.inputs = rest ∧ (t.seq = .txWait ∨ t.seq = .idle) := by
  have hw : (s.setInputs rest).seq = .txWait := h
  rw [step_turn hi]
  cases a with
  | sequencer =>
    refine ⟨_, sequencerTurn_other (s := s.setInputs rest) ?_, rfl, .inl hw⟩
    intro sn hc
    rw [hw] at hc
    cases hc
  | radio ans => exact ⟨_, rfl, by rw [radioAnswer_txWait hw]; rfl, .inr (by rw [radioAnswer_txWait hw]; rfl)⟩
  | hardwareReset => exact ⟨_, rfl, rfl, .inr rfl⟩
  | host a =>
    simp only [takeTurn]
    rcases hostTurn_cases a (s.setInputs rest) with ⟨width, o, hn, hb, e⟩ | ⟨o, -, -, -, e⟩ | ⟨w, -, e⟩ | ⟨w, -, e⟩ |
      ⟨o, w, -, -, -, -, -, e⟩
    · exfalso
      rcases hb with rfl | ⟨w, rfl⟩ <;> exact hn (by simpa [Turn.legal, HostAccess.legal] using ha)
    · exact ⟨_, e, by rw [readPort_eq]; rfl, .inl (by rw [readPort_eq]; exact hw)⟩
    · rcases exec_ctrl_cases w (s.setInputs rest) with ⟨-, hq, -⟩ | ⟨-, -, hq, -⟩ | ⟨-, e'⟩ | e'
      · rw [hw] at hq; cases hq
      · rw [hw] at hq; cases hq
      · exact ⟨_, e.trans e', rfl, .inl hw⟩
      · exact ⟨_, e.trans e', rfl, .inl hw⟩
    · exact ⟨_, e, rfl, .inl hw⟩
    · refine ⟨_, e, ?_, .inl ?_⟩ <;>
        rcases writeReg_cases o w (s.setInputs rest) with ⟨-, e⟩ | ⟨-, e⟩ | ⟨-, e⟩ | ⟨-, e⟩ | ⟨-, e⟩ | e <;> rw [e] <;>
        first | rfl | exact hw

/-- One step, then `n` more. -/
theorem run_succ {s t : State} (h : step s = .next t) (n : Nat) :
    Sys2Proof.core.run (n + 1) s = Sys2Proof.core.run n t := by
  have e : Sys2Proof.core.step s = .next t := h
  simp [Host.Core.run, e]

/-- The machine is weakly fair to the radio (R276). -/
theorem radio_fairness : RadioFairness := by
  intro s
  generalize hl : s.inputs = l
  induction l generalizing s with
  | nil =>
    intro hs _
    exact ⟨1, _, by simp, (run_succ ((step_quiet hl).trans (quietTurn_txWait hs)) 0).trans rfl, rfl⟩
  | cons a rest ih =>
    intro hs ha
    obtain ⟨u, hu, hr, hseq⟩ := step_txWait hs hl (ha a (by simp))
    rcases hseq with hseq | hseq
    · obtain ⟨n, t, hn, ht, hidle⟩ := ih u hr hseq (fun b hb => ha b (by simp [hb]))
      exact ⟨n + 1, t, by rw [hl, List.length_cons]; rw [hr] at hn; omega, (run_succ hu n).trans ht, hidle⟩
    · exact ⟨1, u, by simp, (run_succ hu 0).trans rfl, hseq⟩

end Sys2Proof.Machine
end

