-- ==== Sys2Proof/Laws/HostProgram.lean ====
section
/-! SUPPORT. The host's use of the open parameters: the port's place in the system's map, and what loading MAT_ZONES
into ZONE_MASK accepts (R60, R293, D32). -/

namespace Sys2Proof.Machine

/-- An offset is recovered from its system address, wherever the port stands. -/
theorem portOffset_systemAddress (p : Params) (offset : Nat) :
    portOffset p (systemAddress p offset) = some offset := by
  simp [portOffset, systemAddress]

/-- The sum of the bits of a list of zones without repeats has exactly the listed zones' bits. -/
theorem zoneSum_getLsbD (zs : List (BitVec 3)) (h : zs.Nodup) (z : BitVec 3) :
    (BitVec.ofNat 8 (zs.map fun y => 1 <<< y.toNat).sum).getLsbD z.toNat = decide (z ∈ zs) := by
  induction zs generalizing z with
  | nil => simp
  | cons y zs ih =>
    obtain ⟨hy, hn⟩ := List.nodup_cons.mp h
    have key : BitVec.ofNat 8 (1 <<< y.toNat) &&& BitVec.ofNat 8 (zs.map fun y => 1 <<< y.toNat).sum = 0#8 := by
      ext i hi
      have e := ih hn (BitVec.ofNat 3 i)
      have hi3 : (BitVec.ofNat 3 i).toNat = i := by simp; omega
      rw [hi3] at e
      rw [BitVec.getElem_and, ← BitVec.getLsbD_eq_getElem, ← BitVec.getLsbD_eq_getElem, e]
      by_cases hiy : i = y.toNat
      · subst hiy
        simp [hy]
      · have : (1 <<< y.toNat).testBit i = false := by
          rw [Nat.one_shiftLeft, Nat.testBit_two_pow_of_ne (Ne.symm hiy)]
        simp [BitVec.getLsbD_ofNat, this]
    have bits : ∀ y z : BitVec 3, (BitVec.ofNat 8 (1 <<< y.toNat)).getLsbD z.toNat = decide (z = y) := by decide
    rw [List.map_cons, List.sum_cons, BitVec.ofNat_add, BitVec.add_eq_or_of_and_eq_zero _ _ key, BitVec.getLsbD_or,
      ih hn, bits]
    simp

/-- Loading MAT_ZONES into ZONE_MASK accepts exactly the zones of MAT_ZONES (R29, R293, D32). -/
theorem zonesLine_accepts (p : Params) (hp : p.wf = true) (z : BitVec 3) :
    ∃ w, (zonesLine p).expand = some [wrTurn 0x18 w] ∧
      ∀ s, (writeReg 0x18 w s).zoneMask.getLsbD z.toNat = decide (z ∈ p.matZones) := by
  refine ⟨_, rfl, fun s => ?_⟩
  have hn : p.matZones.Nodup := (of_decide_eq_true hp).2
  have hv : ∀ y : BitVec 3, val (bin 3 y.toNat) = y.toNat := by decide
  show (lowByte _).getLsbD z.toNat = _
  rw [← zoneSum_getLsbD p.matZones hn z]
  have hz := z.isLt
  simp only [lowByte, BitVec.getLsbD_extractLsb', BitVec.getLsbD_ofNat, List.map_map, Function.comp_def, hv,
    Nat.zero_add, decide_eq_true (show z.toNat < 8 by omega), decide_eq_true (show z.toNat < 32 by omega),
    Bool.true_and]

end Sys2Proof.Machine
end

