-- ==== Sys2Proof/Laws/PerInstr.lean ====
section
/-! SUPPORT. Facts about every instruction as syntax, one lemma per constructor: the encoded word has the match
value of its row of spec/opcode_table.json under the row's mask. -/

namespace Sys2Proof.Laws.RowMatch

/-- The `mask` of an instruction's row. -/
def mask : Instr → Word
  | .ctrlWrite _ _ _ => 0x80000001#32
  | .fanSend _ _ => 0x80000007#32
  | .matSend _ _ => 0x80000007#32
  | .reservedOp0 _ _ => 0x80000007#32
  | .reservedOp3 _ _ => 0x80000007#32
  | .srst _ _ _ => 0x80000000#32
  | .statusW1c _ _ => 0x00000000#32
  | .fanSendOff _ _ => 0x00000F00#32
  | .fanSendSpeed1 _ _ => 0x00000F00#32
  | .fanSendSpeed2 _ _ => 0x00000F00#32
  | .fanSendSpeed3 _ _ => 0x00000F00#32
  | .fanSendSpeed4 _ _ => 0x00000F00#32
  | .fanSendSpeed5 _ _ => 0x00000F00#32
  | .fanSendSpeed6 _ _ => 0x00000F00#32
  | .fanSendReverse _ _ => 0x00000F00#32
  | .fanSendToggleDownlight _ _ => 0x00000F00#32
  | .fanSendToggleUplight _ _ => 0x00000F00#32
  | .fanSendDimDownlight _ _ => 0x00000F00#32
  | .fanSendDimUplight _ _ => 0x00000F00#32
  | .fanSendReservedAction _ _ _ => 0x00000C00#32

/-- The `match` of an instruction's row. -/
def pattern : Instr → Word
  | .ctrlWrite _ _ _ => 0x00000000#32
  | .fanSend _ _ => 0x00000003#32
  | .matSend _ _ => 0x00000005#32
  | .reservedOp0 _ _ => 0x00000001#32
  | .reservedOp3 _ _ => 0x00000007#32
  | .srst _ _ _ => 0x80000000#32
  | .statusW1c _ _ => 0x00000000#32
  | .fanSendOff _ _ => 0x00000000#32
  | .fanSendSpeed1 _ _ => 0x00000100#32
  | .fanSendSpeed2 _ _ => 0x00000200#32
  | .fanSendSpeed3 _ _ => 0x00000300#32
  | .fanSendSpeed4 _ _ => 0x00000400#32
  | .fanSendSpeed5 _ _ => 0x00000500#32
  | .fanSendSpeed6 _ _ => 0x00000600#32
  | .fanSendReverse _ _ => 0x00000700#32
  | .fanSendToggleDownlight _ _ => 0x00000800#32
  | .fanSendToggleUplight _ _ => 0x00000900#32
  | .fanSendDimDownlight _ _ => 0x00000A00#32
  | .fanSendDimUplight _ _ => 0x00000B00#32
  | .fanSendReservedAction _ _ _ => 0x00000C00#32

/-- The encoding of a well-formed instruction matches its row of the opcode table. -/
def Statement (i : Instr) : Prop := i.wellFormed = true → encode i &&& mask i = pattern i

theorem ctrlWrite (op : BitVec 2) (notx irqEn : Bool) : Statement (.ctrlWrite op notx irqEn) := by
  intro _
  revert op notx irqEn
  decide

theorem fanSend (notx irqEn : Bool) : Statement (.fanSend notx irqEn) := by
  intro _
  revert notx irqEn
  decide

theorem matSend (notx irqEn : Bool) : Statement (.matSend notx irqEn) := by
  intro _
  revert notx irqEn
  decide

theorem reservedOp0 (notx irqEn : Bool) : Statement (.reservedOp0 notx irqEn) := by
  intro _
  revert notx irqEn
  decide

theorem reservedOp3 (notx irqEn : Bool) : Statement (.reservedOp3 notx irqEn) := by
  intro _
  revert notx irqEn
  decide

theorem srst (op : BitVec 2) (notx irqEn : Bool) : Statement (.srst op notx irqEn) := by
  intro _
  revert op notx irqEn
  decide

theorem statusW1c (doneClr ovrClr : Bool) : Statement (.statusW1c doneClr ovrClr) := by
  intro _
  revert doneClr ovrClr
  decide

/-- Masking a fan command word above bit 7 leaves the masked action index (R83). -/
theorem fanWord_and (m : Word) (hm : ∀ addr : BitVec 5, addr.setWidth 32 &&& m = 0#32)
    (hl : ∀ len, bitWord len <<< 7 &&& m = 0#32) (action : BitVec 4) (len : Bool) (addr : BitVec 5) :
    fanWord action len addr &&& m = action.setWidth 32 <<< 8 &&& m := by
  have dist : ∀ a b c : Word, (a ||| b ||| c) &&& m = (a &&& m) ||| (b &&& m) ||| (c &&& m) := by
    intro a b c
    ext i
    simp [Bool.and_or_distrib_right]
  rw [fanWord, dist, hm, hl]
  simp

theorem fanWord_action (action : BitVec 4) (len : Bool) (addr : BitVec 5) :
    fanWord action len addr &&& 0xF00#32 = action.setWidth 32 <<< 8 &&& 0xF00#32 :=
  fanWord_and 0xF00#32 (by decide) (by decide) action len addr

theorem fanSendOff (len : Bool) (addr : BitVec 5) : Statement (.fanSendOff len addr) :=
  fun _ => fanWord_action 0#4 len addr

theorem fanSendSpeed1 (len : Bool) (addr : BitVec 5) : Statement (.fanSendSpeed1 len addr) :=
  fun _ => fanWord_action 1#4 len addr

theorem fanSendSpeed2 (len : Bool) (addr : BitVec 5) : Statement (.fanSendSpeed2 len addr) :=
  fun _ => fanWord_action 2#4 len addr

theorem fanSendSpeed3 (len : Bool) (addr : BitVec 5) : Statement (.fanSendSpeed3 len addr) :=
  fun _ => fanWord_action 3#4 len addr

theorem fanSendSpeed4 (len : Bool) (addr : BitVec 5) : Statement (.fanSendSpeed4 len addr) :=
  fun _ => fanWord_action 4#4 len addr

theorem fanSendSpeed5 (len : Bool) (addr : BitVec 5) : Statement (.fanSendSpeed5 len addr) :=
  fun _ => fanWord_action 5#4 len addr

theorem fanSendSpeed6 (len : Bool) (addr : BitVec 5) : Statement (.fanSendSpeed6 len addr) :=
  fun _ => fanWord_action 6#4 len addr

theorem fanSendReverse (len : Bool) (addr : BitVec 5) : Statement (.fanSendReverse len addr) :=
  fun _ => fanWord_action 7#4 len addr

theorem fanSendToggleDownlight (len : Bool) (addr : BitVec 5) : Statement (.fanSendToggleDownlight len addr) :=
  fun _ => fanWord_action 8#4 len addr

theorem fanSendToggleUplight (len : Bool) (addr : BitVec 5) : Statement (.fanSendToggleUplight len addr) :=
  fun _ => fanWord_action 9#4 len addr

theorem fanSendDimDownlight (len : Bool) (addr : BitVec 5) : Statement (.fanSendDimDownlight len addr) :=
  fun _ => fanWord_action 10#4 len addr

theorem fanSendDimUplight (len : Bool) (addr : BitVec 5) : Statement (.fanSendDimUplight len addr) :=
  fun _ => fanWord_action 11#4 len addr

theorem fanSendReservedAction (action : BitVec 4) (len : Bool) (addr : BitVec 5) :
    Statement (.fanSendReservedAction action len addr) := by
  intro h
  have e := fanWord_and 0xC00#32 (by decide) (by decide) action len addr
  have key : ∀ a : BitVec 4, 12 ≤ a.toNat → a.setWidth 32 <<< 8 &&& 0xC00#32 = 0xC00#32 := by decide
  exact e.trans (key action (by simpa [Instr.wellFormed] using h))

end Sys2Proof.Laws.RowMatch
end

