-- ==== Sys2Proof/Laws/Sequential.lean ====
section
/-! SUPPORT. The values the framers' start lines leave open reach no emitted symbol (log 18). -/

namespace Sys2Proof.Machine

/-- In LEAD the symbols to come depend on g alone (R166). -/
theorem framerRun_lead (field : BitString) (reps n g b p r b' p' r' : Nat) :
    framerRun (FanFramer.next field reps) n (some { phase := .lead, g := g, b := b, p := p, r := r }) =
      framerRun (FanFramer.next field reps) n (some { phase := .lead, g := g, b := b', p := p', r := r' }) := by
  induction n generalizing g with
  | zero => rfl
  | succ n ih =>
    by_cases hg : g + 1 = 36
    · simp [framerRun, FanFramer.next, hg]
    · simpa [framerRun, FanFramer.next, hg] using ih (g + 1)

/-- In PRE the symbols to come depend on q and r alone (R206). -/
theorem framerRun_pre (field : BitString) (reps n q r b p b' p' : Nat) :
    framerRun (MatFramer.next field reps) n (some { phase := .pre, q := q, b := b, p := p, r := r }) =
      framerRun (MatFramer.next field reps) n (some { phase := .pre, q := q, b := b', p := p', r := r }) := by
  induction n generalizing q with
  | zero => rfl
  | succ n ih =>
    by_cases hq : q + 1 = 12
    · simp [framerRun, MatFramer.next, hq]
    · simpa [framerRun, MatFramer.next, hq] using ih (q + 1)

end Sys2Proof.Machine
end

