-- ==== Sys2Proof/Tests/Slice0.lean ====
section
/-! SUPPORT. The model's own tests: expected values are those of spec/95_test_vectors.md and of the worked examples
of the rules. -/

namespace Sys2Proof.Tests

open Sys2Proof.Machine

/-- The next state of an outcome. -/
def nextOf (o : Host.Outcome State Fault Refusal) : Option State :=
  match o with
  | .next s => some s
  | _ => none

/-- The fault of an outcome. -/
def faultOf (o : Host.Outcome State Fault Refusal) : Option Fault :=
  match o with
  | .fault e => some e
  | _ => none

/-- Something of the next state. -/
def after {α : Type} (get : State → α) (o : Host.Outcome State Fault Refusal) : Option α := (nextOf o).map get

/-- A bit string from the digits of a number written in decimal, most significant first. -/
def digits (n v : Nat) : BitString := (List.range n).map fun i => v / 10 ^ (n - 1 - i) % 10 == 1

/-- The reset state with one coming turn. -/
def withTurn (t : Turn) (s : State) : State := s.setInputs [t]

/-- The reset state after the host wrote FAN_CMD, FAN_REP and started a FAN_SEND: SEQ = COMPUTE. -/
def fanStarted (w : Word) (reps : BitVec 8) (notx : Bool) : State :=
  start 0b01#2 (storeCtrl 0b01#2 notx false ((State.reset.setFanCmd (FanCmd.ofWord w)).setFanReps reps))

/-- The same for MAT_CMD, MAT_REP and MAT_SEND. -/
def matStarted (w : Word) (reps : BitVec 8) (notx : Bool) : State :=
  start 0b10#2 (storeCtrl 0b10#2 notx false ((State.reset.setMatCmd (MatCmd.ofWord w)).setMatReps reps))

/-- The first `n` bytes of TXBUF that a build has written. -/
def written (n : Nat) (s : State) : List (Option Byte) := (List.range n).map s.txbuf.read?

/-! The one check of WellFormed, and a term it refuses (R84: index 11 is dim-uplight). -/

theorem test_wellFormed_refuses : (Instr.fanSendReservedAction 11#4 false 0#5).wellFormed = false := by decide
theorem test_wellFormed_accepts : (Instr.fanSendReservedAction 12#4 false 0#5).wellFormed = true := by decide

/-! Decoding: words written out from R81, R83, R91, R96. -/

theorem test_decode_ctrlWrite : decode .ctrlCmd 0x1E#32 = .ctrlWrite 0b11#2 true true := by decide
theorem test_decode_ctrlWrite_reserved : decode .ctrlCmd 0x7FFFFFE0#32 = .ctrlWrite 0b00#2 false false := by decide
theorem test_decode_fanSend : decode .ctrlCmd 0b01011#32 = .fanSend true false := by decide
theorem test_decode_matSend : decode .ctrlCmd 0b10101#32 = .matSend false true := by decide
theorem test_decode_reservedOp0 : decode .ctrlCmd 0b00001#32 = .reservedOp0 false false := by decide
theorem test_decode_reservedOp3 : decode .ctrlCmd 0b11111#32 = .reservedOp3 true true := by decide
theorem test_decode_srst : decode .ctrlCmd 0x80000001#32 = .srst 0b00#2 false false := by decide
theorem test_decode_statusW1c : decode .statusW1c 0x06#32 = .statusW1c true true := by decide
theorem test_decode_statusW1c_done : decode .statusW1c 0xFFFFFFFA#32 = .statusW1c true false := by decide
theorem test_decode_fanSendOff : decode .fanCmd 0x00A#32 = .fanSendOff false 0b01010#5 := by decide
theorem test_decode_fanSendSpeed1 : decode .fanCmd 0x10A#32 = .fanSendSpeed1 false 0b01010#5 := by decide
theorem test_decode_fanSendSpeed2 : decode .fanCmd 0x20A#32 = .fanSendSpeed2 false 0b01010#5 := by decide
theorem test_decode_fanSendSpeed3 : decode .fanCmd 0x30A#32 = .fanSendSpeed3 false 0b01010#5 := by decide
theorem test_decode_fanSendSpeed4 : decode .fanCmd 0x40A#32 = .fanSendSpeed4 false 0b01010#5 := by decide
theorem test_decode_fanSendSpeed5 : decode .fanCmd 0x50A#32 = .fanSendSpeed5 false 0b01010#5 := by decide
theorem test_decode_fanSendSpeed6 : decode .fanCmd 0x60A#32 = .fanSendSpeed6 false 0b01010#5 := by decide
theorem test_decode_fanSendReverse : decode .fanCmd 0x70A#32 = .fanSendReverse false 0b01010#5 := by decide
theorem test_decode_fanSendToggleDownlight : decode .fanCmd 0x80A#32 = .fanSendToggleDownlight false 0b01010#5 := by decide
theorem test_decode_fanSendToggleUplight : decode .fanCmd 0x90A#32 = .fanSendToggleUplight false 0b01010#5 := by decide
theorem test_decode_fanSendDimDownlight : decode .fanCmd 0xA0A#32 = .fanSendDimDownlight false 0b01010#5 := by decide
theorem test_decode_fanSendDimUplight : decode .fanCmd 0xB0A#32 = .fanSendDimUplight false 0b01010#5 := by decide
theorem test_decode_reservedAction : decode .fanCmd 0xF8D#32 = .fanSendReservedAction 15#4 true 0b01101#5 := by
  decide
theorem test_decodePort_refuses : decodePort 0x08 0x30A#32 = .error (.noInstructionAt 0x08) := by rfl
theorem test_decodeTableWord_fan : decodeTableWord 16 0x300 = some (.fanSendSpeed3 false 0#5) := by decide
theorem test_decodeTableWord_status : decodeTableWord 8 0x2 = some (.statusW1c true false) := by decide
theorem test_decodeTableWord_ctrl : decodeTableWord 32 0x3 = some (.fanSend false false) := by decide

/-! The protocol functions: vectors S1 to S10, P-1 to P-8 of 95_test_vectors.md. -/

theorem test_pack_empty : pack [] = [] := by decide
theorem test_pack_nine : pack (digits 9 101000001) = [0xA0#8, 0x80#8] := by decide
theorem test_pack_seven : pack (digits 7 1111111) = [0xFE#8] := by decide
theorem test_unpack_nine : unpack [0xA0#8, 0x80#8] = digits 16 1010000010000000 := by decide
theorem test_seqPack_nine : seqPack (digits 9 101000001) = [0xA0#8, 0x80#8] := by decide
theorem test_fanEncode_speed3 : fanEncode (digits 4 1010) 3#4 = some (digits 13 1101000100000) := by decide
theorem test_fanEncode_invalid : fanEncode (digits 4 1010) 12#4 = none := by decide
theorem test_fanModulate_one_bit : fanModulate [false] 1 = zeros 36 ++ [true, false, false] ++ zeros 36 := by decide
theorem test_matEncode_zone4 :
    matEncode (MatCmd.ofWord 0x400#32) = digits 25 0000011000000000000000000 := by decide
theorem test_matEncode_m2 :
    matEncode (MatCmd.ofWord 0x37416#32) = digits 25 0010011001011000001110101 := by decide
theorem test_palindrome :
    pack (matModulate (bin 25 0x080020) 1) = [0xFC#8, 0x09#8, 0x24#8, 0x96#8, 0x49#8, 0x24#8, 0x92#8, 0x49#8, 0x25#8, 0x92#8, 0x48#8] := by decide
theorem test_fanFramer_keeps_g : (FanFramer.next [] 1 { FanFramer.start with g := 35 }).2
    = some { phase := .pay, g := 36, b := 0, p := 0, r := 1 } := by decide
theorem test_seqFan_one : seqFan (bin 13 0x1A20) 2 200 = fanModulate (bin 13 0x1A20) 2 := by decide +kernel
theorem test_seqMat_one : seqMat (bin 25 0x4CB075) 2 200 = matModulate (bin 25 0x4CB075) 2 := by decide +kernel

/-! The compute step of every fan action, address "1010" and "01101" (tables 2.2 and 2.3), R = 1, dry run. -/

theorem test_fanSendOff_buffer :
    after (fun t => (t.results.field, written 14 t)) (step (fanStarted 0x00A#32 1#8 true))
      = some (0x1A04#25, ([0x00#8, 0x00#8, 0x00#8, 0x00#8, 0x0B#8, 0x65#8, 0x92#8, 0x49#8, 0x2C#8, 0x80#8, 0x00#8, 0x00#8, 0x00#8, 0x00#8] : List Byte).map some) := by decide
theorem test_fanSendOff_five :
    after (fun t => (t.results.field, t.statusWord)) (exec (.fanSendOff true 0b01101#5) (fanStarted 0x08D#32 1#8 true))
      = some (0x0D04#25, 0x102#32) := by decide
theorem test_fanSendSpeed1_buffer :
    after (fun t => (t.results.field, written 14 t)) (step (fanStarted 0x10A#32 1#8 true))
      = some (0x1A10#25, ([0x00#8, 0x00#8, 0x00#8, 0x00#8, 0x0B#8, 0x65#8, 0x92#8, 0x4B#8, 0x24#8, 0x80#8, 0x00#8, 0x00#8, 0x00#8, 0x00#8] : List Byte).map some) := by decide
theorem test_fanSendSpeed1_five :
    after (fun t => (t.results.field, t.statusWord)) (exec (.fanSendSpeed1 true 0b01101#5) (fanStarted 0x18D#32 1#8 true))
      = some (0x0D10#25, 0x102#32) := by decide
theorem test_fanSendSpeed2_buffer :
    after (fun t => (t.results.field, written 14 t)) (step (fanStarted 0x20A#32 1#8 true))
      = some (0x1A14#25, ([0x00#8, 0x00#8, 0x00#8, 0x00#8, 0x0B#8, 0x65#8, 0x92#8, 0x4B#8, 0x2C#8, 0x80#8, 0x00#8, 0x00#8, 0x00#8, 0x00#8] : List Byte).map some) := by decide
theorem test_fanSendSpeed2_five :
    after (fun t => (t.results.field, t.statusWord)) (exec (.fanSendSpeed2 true 0b01101#5) (fanStarted 0x28D#32 1#8 true))
      = some (0x0D14#25, 0x102#32) := by decide
theorem test_fanSendSpeed3_buffer :
    after (fun t => (t.results.field, written 14 t)) (step (fanStarted 0x30A#32 1#8 true))
      = some (0x1A20#25, ([0x00#8, 0x00#8, 0x00#8, 0x00#8, 0x0B#8, 0x65#8, 0x92#8, 0x59#8, 0x24#8, 0x80#8, 0x00#8, 0x00#8, 0x00#8, 0x00#8] : List Byte).map some) := by decide
theorem test_fanSendSpeed3_five :
    after (fun t => (t.results.field, t.statusWord)) (exec (.fanSendSpeed3 true 0b01101#5) (fanStarted 0x38D#32 1#8 true))
      = some (0x0D20#25, 0x102#32) := by decide
theorem test_fanSendSpeed4_buffer :
    after (fun t => (t.results.field, written 14 t)) (step (fanStarted 0x40A#32 1#8 true))
      = some (0x1A30#25, ([0x00#8, 0x00#8, 0x00#8, 0x00#8, 0x0B#8, 0x65#8, 0x92#8, 0x5B#8, 0x24#8, 0x80#8, 0x00#8, 0x00#8, 0x00#8, 0x00#8] : List Byte).map some) := by decide
theorem test_fanSendSpeed4_five :
    after (fun t => (t.results.field, t.statusWord)) (exec (.fanSendSpeed4 true 0b01101#5) (fanStarted 0x48D#32 1#8 true))
      = some (0x0D30#25, 0x102#32) := by decide
theorem test_fanSendSpeed5_buffer :
    after (fun t => (t.results.field, written 14 t)) (step (fanStarted 0x50A#32 1#8 true))
      = some (0x1A44#25, ([0x00#8, 0x00#8, 0x00#8, 0x00#8, 0x0B#8, 0x65#8, 0x92#8, 0xC9#8, 0x2C#8, 0x80#8, 0x00#8, 0x00#8, 0x00#8, 0x00#8] : List Byte).map some) := by decide
theorem test_fanSendSpeed5_five :
    after (fun t => (t.results.field, t.statusWord)) (exec (.fanSendSpeed5 true 0b01101#5) (fanStarted 0x58D#32 1#8 true))
      = some (0x0D44#25, 0x102#32) := by decide
theorem test_fanSendSpeed6_buffer :
    after (fun t => (t.results.field, written 14 t)) (step (fanStarted 0x60A#32 1#8 true))
      = some (0x1A40#25, ([0x00#8, 0x00#8, 0x00#8, 0x00#8, 0x0B#8, 0x65#8, 0x92#8, 0xC9#8, 0x24#8, 0x80#8, 0x00#8, 0x00#8, 0x00#8, 0x00#8] : List Byte).map some) := by decide
theorem test_fanSendSpeed6_five :
    after (fun t => (t.results.field, t.statusWord)) (exec (.fanSendSpeed6 true 0b01101#5) (fanStarted 0x68D#32 1#8 true))
      = some (0x0D40#25, 0x102#32) := by decide
theorem test_fanSendReverse_buffer :
    after (fun t => (t.results.field, written 14 t)) (step (fanStarted 0x70A#32 1#8 true))
      = some (0x1A08#25, ([0x00#8, 0x00#8, 0x00#8, 0x00#8, 0x0B#8, 0x65#8, 0x92#8, 0x49#8, 0x64#8, 0x80#8, 0x00#8, 0x00#8, 0x00#8, 0x00#8] : List Byte).map some) := by decide
theorem test_fanSendReverse_five :
    after (fun t => (t.results.field, t.statusWord)) (exec (.fanSendReverse true 0b01101#5) (fanStarted 0x78D#32 1#8 true))
      = some (0x0D08#25, 0x102#32) := by decide
theorem test_fanSendToggleDownlight_buffer :
    after (fun t => (t.results.field, written 14 t)) (step (fanStarted 0x80A#32 1#8 true))
      = some (0x1A02#25, ([0x00#8, 0x00#8, 0x00#8, 0x00#8, 0x0B#8, 0x65#8, 0x92#8, 0x49#8, 0x25#8, 0x80#8, 0x00#8, 0x00#8, 0x00#8, 0x00#8] : List Byte).map some) := by decide
theorem test_fanSendToggleDownlight_five :
    after (fun t => (t.results.field, t.statusWord)) (exec (.fanSendToggleDownlight true 0b01101#5) (fanStarted 0x88D#32 1#8 true))
      = some (0x0D02#25, 0x102#32) := by decide
theorem test_fanSendToggleUplight_buffer :
    after (fun t => (t.results.field, written 14 t)) (step (fanStarted 0x90A#32 1#8 true))
      = some (0x1A12#25, ([0x00#8, 0x00#8, 0x00#8, 0x00#8, 0x0B#8, 0x65#8, 0x92#8, 0x4B#8, 0x25#8, 0x80#8, 0x00#8, 0x00#8, 0x00#8, 0x00#8] : List Byte).map some) := by decide
theorem test_fanSendToggleUplight_five :
    after (fun t => (t.results.field, t.statusWord)) (exec (.fanSendToggleUplight true 0b01101#5) (fanStarted 0x98D#32 1#8 true))
      = some (0x0D12#25, 0x102#32) := by decide
theorem test_fanSendDimDownlight_buffer :
    after (fun t => (t.results.field, written 14 t)) (step (fanStarted 0xA0A#32 1#8 true))
      = some (0x1A82#25, ([0x00#8, 0x00#8, 0x00#8, 0x00#8, 0x0B#8, 0x65#8, 0x96#8, 0x49#8, 0x25#8, 0x80#8, 0x00#8, 0x00#8, 0x00#8, 0x00#8] : List Byte).map some) := by decide
theorem test_fanSendDimDownlight_five :
    after (fun t => (t.results.field, t.statusWord)) (exec (.fanSendDimDownlight true 0b01101#5) (fanStarted 0xA8D#32 1#8 true))
      = some (0x0D82#25, 0x102#32) := by decide
theorem test_fanSendDimUplight_buffer :
    after (fun t => (t.results.field, written 14 t)) (step (fanStarted 0xB0A#32 1#8 true))
      = some (0x1A92#25, ([0x00#8, 0x00#8, 0x00#8, 0x00#8, 0x0B#8, 0x65#8, 0x96#8, 0x4B#8, 0x25#8, 0x80#8, 0x00#8, 0x00#8, 0x00#8, 0x00#8] : List Byte).map some) := by decide
theorem test_fanSendDimUplight_five :
    after (fun t => (t.results.field, t.statusWord)) (exec (.fanSendDimUplight true 0b01101#5) (fanStarted 0xB8D#32 1#8 true))
      = some (0x0D92#25, 0x102#32) := by decide
theorem test_fan_results :
    after (fun t => t.results) (step (fanStarted 0x30A#32 1#8 true))
      = some { field := 0x1A20#25, fieldLen := 13#5, symLen := 111#16, byteLen := 14#13, txFreq := 0x121CC3B8#32,
               txRate := 0x0BB8#16, txMod := 1#2 } := by decide
theorem test_fan_two_repeats :
    after (fun t => (t.results.symLen, written 24 t)) (step (fanStarted 0x30A#32 2#8 true))
      = some (186#16, ([0x00#8, 0x00#8, 0x00#8, 0x00#8, 0x0B#8, 0x65#8, 0x92#8, 0x59#8, 0x24#8, 0x80#8, 0x00#8, 0x00#8, 0x00#8, 0x01#8, 0x6C#8, 0xB2#8, 0x4B#8, 0x24#8, 0x90#8, 0x00#8, 0x00#8, 0x00#8, 0x00#8, 0x00#8] : List Byte).map some) := by
  decide +kernel
theorem test_fan_issue_status :
    after (fun t => (t.seq, t.statusWord, t.history.length)) (step (fanStarted 0x30A#32 1#8 false))
      = some (.txWait, 0x101#32, 1) := by decide
theorem test_fan_issue_request :
    after (fun t => t.req.map (fun r => (r.freq, r.rate, r.bytes.take 6))) (step (fanStarted 0x30A#32 1#8 false))
      = some (some (303875000#32, 3000#16, [0#8, 0#8, 0#8, 0#8, 0x0B#8, 0x65#8])) := by decide
theorem test_reservedAction_invalid :
    after (fun t => (t.statusWord, t.results.byteLen)) (step (fanStarted 0xC0A#32 16#8 false))
      = some (0x112#32, 0#13) := by decide
theorem test_reservedAction_repeat_first :
    after (fun t => t.statusWord) (step (fanStarted 0xF0A#32 0#8 false)) = some 0x132#32 := by decide
theorem test_fan_ignores_addr4 :
    after (fun t => t.results.field) (step (fanStarted 0x1A#32 1#8 true)) = some 0x1A04#25 := by decide

/-! The mattress compute step (table 2.5) and the reserved OPs (table 2.7). -/

theorem test_mat_m1 :
    after (fun t => (t.results.field, t.statusWord, written 11 t)) (step (matStarted 0x400#32 1#8 true))
      = some (0x0C0000#25, 0x202#32, ([0xFC#8, 0x09#8, 0x24#8, 0x92#8, 0x49#8, 0x24#8, 0x92#8, 0x49#8, 0x2D#8, 0x92#8, 0x48#8] : List Byte).map some) := by decide
theorem test_mat_m2 :
    after (fun t => (t.results.field, written 11 t)) (step (matStarted 0x37416#32 1#8 true))
      = some (0x4CB075#25, ([0xFC#8, 0x0B#8, 0x2C#8, 0xB6#8, 0xC9#8, 0x24#8, 0xB6#8, 0x59#8, 0x2D#8, 0x92#8, 0xC8#8] : List Byte).map some) := by decide
theorem test_mat_m16 :
    after (fun t => (t.seq, t.statusWord, written 33 t)) (step (matStarted 0x37416#32 3#8 false))
      = some (.txWait, 0x201#32, ([0xFC#8, 0x0B#8, 0x2C#8, 0xB6#8, 0xC9#8, 0x24#8, 0xB6#8, 0x59#8, 0x2D#8, 0x92#8, 0xC9#8, 0xF8#8, 0x16#8, 0x59#8, 0x6D#8, 0x92#8, 0x49#8, 0x6C#8, 0xB2#8, 0x5B#8, 0x25#8, 0x93#8, 0xF0#8, 0x2C#8, 0xB2#8, 0xDB#8, 0x24#8, 0x92#8, 0xD9#8, 0x64#8, 0xB6#8, 0x4B#8, 0x20#8] : List Byte).map some) := by
  decide +kernel
theorem test_mat_heat_order :
    after (fun t => t.results.field) (step (matStarted 0x1000#32 1#8 true)) = some 0x080010#25 := by decide
theorem test_mat_zone_rejected :
    after (fun t => (t.statusWord, t.results.fieldLen))
      (step (start 0b10#2 ((State.reset.setMatCmd (MatCmd.ofWord 0x700#32)).setZoneMask 0x7E#8)))
      = some (0x222#32, 0#5) := by decide
theorem test_mat_repeat_zero :
    after (fun t => t.statusWord) (step (matStarted 0x400#32 0#8 false)) = some 0x232#32 := by decide
theorem test_reservedOp0_compute :
    after (fun t => t.statusWord) (step (start 0b00#2 State.reset)) = some 0x52#32 := by decide
theorem test_reservedOp3_compute :
    after (fun t => t.statusWord) (step (start 0b11#2 State.reset)) = some 0x352#32 := by decide

/-! CTRL and STATUS writes (vectors H3 to H5, H14 to H19). -/

theorem test_ctrlWrite_readback :
    after (fun t => t.storedWord 0x00) (step (withTurn (wrTurn 0x00 0x1E#32) State.reset)) = some 0x1E#32 := by decide
theorem test_ctrlWrite_raises_irq :
    after (fun t => (t.irq, t.statusWord)) (exec (.ctrlWrite 0#2 false true) (complete .ok State.reset))
      = some (true, 0x0A#32) := by decide
theorem test_fanSend_starts :
    after (fun t => (t.seq, t.snap.map (·.fanCmd), t.snap.map (·.fanReps)))
      (step (withTurn (wrTurn 0x00 0x03#32) (State.reset.setFanCmd (FanCmd.ofWord 0x30A#32))))
      = some (.compute, some { addr := 0b01010#5, addrLen := false, action := 3#4 }, some 16#8) := by decide
theorem test_matSend_starts :
    after (fun t => (t.statusWord, t.snap.map (·.notx))) (step (withTurn (wrTurn 0x00 0x0D#32) State.reset))
      = some (0x201#32, some true) := by decide
theorem test_matSend_busy_overrun :
    after (fun t => (t.statusWord, t.ctrl.op, t.snap.map (·.op)))
      (step (withTurn (wrTurn 0x00 0x05#32) (fanStarted 0x30A#32 1#8 false)))
      = some (0x105#32, 0b10#2, some 0b01#2) := by decide
theorem test_reservedOp0_starts :
    after (fun t => t.statusWord) (step (withTurn (wrTurn 0x00 0x01#32) State.reset)) = some 0x001#32 := by decide
theorem test_reservedOp3_starts :
    after (fun t => t.statusWord) (step (withTurn (wrTurn 0x00 0x07#32) State.reset)) = some 0x301#32 := by decide
theorem test_srst_idle :
    after (fun t => (t.fanReps, t.snap, t.seq))
      (step (withTurn (wrTurn 0x00 0x80000001#32) (State.reset.setFanReps 2#8))) = some (16#8, none, .idle) := by decide
theorem test_srst_busy :
    after (fun t => (t.statusWord, t.ctrl)) (step (withTurn (wrTurn 0x00 0x80000000#32) (fanStarted 0x30A#32 1#8 true)))
      = some (0x105#32, { op := 0#2, notx := false, irqEn := false }) := by decide
/-- STATUS 0x4E: ERR 4, IRQ, OVR, DONE (H14, H15). -/
def status4E : State :=
  (State.reset.setStatus { done := true, ovr := true, err := .txFail, lastOp := 0#2 }).setCtrl
    { op := 0#2, notx := false, irqEn := true }
theorem test_status4E : status4E.statusWord = 0x4E#32 := by decide
theorem test_statusW1c_both :
    after (fun t => t.statusWord) (step (withTurn (wrTurn 0x04 0x06#32) status4E)) = some 0x40#32 := by decide
theorem test_statusW1c_done :
    after (fun t => t.statusWord) (step (withTurn (wrTurn 0x04 0x02#32) status4E)) = some 0x44#32 := by decide

/-! The host port (vectors H1, H2, H6 to H13), the radio, the resets. -/

theorem test_reset_words :
    [0x04, 0x0C, 0x14, 0x18].map State.reset.storedWord = [0x0#32, 16#32, 3#32, 0xFF#32] := by decide
theorem test_fanCmd_reserved_bits :
    after (fun t => t.storedWord 0x08) (step (withTurn (wrTurn 0x08 0xFFFFFFFF#32) State.reset)) = some 0xF9F#32 := by decide
theorem test_matCmd_reserved_bits :
    after (fun t => t.storedWord 0x10) (step (withTurn (wrTurn 0x10 0xFFFFFFFF#32) State.reset)) = some 0x7F71F#32 := by decide
theorem test_fanRep_truncates :
    after (fun t => t.storedWord 0x0C) (step (withTurn (wrTurn 0x0C 0x123#32) State.reset)) = some 0x23#32 := by decide
theorem test_field_write_ignored :
    after (fun t => t.results.field) (step (withTurn (wrTurn 0x20 0x12345678#32) State.reset)) = some 0#25 := by decide
theorem test_reserved_offsets_read_zero :
    [0x1C, 0x3C, 0x800].map State.reset.storedWord = [0#32, 0#32, 0#32] := by decide
theorem test_bus_errors :
    faultOf (step (withTurn (.host (.read 16 0x04)) State.reset)) = some (.busError 0x04) ∧
    faultOf (step (withTurn (rdTurn 0x06) State.reset)) = some (.busError 0x06) ∧
    faultOf (step (withTurn (rdTurn 0x2000) State.reset)) = some (.busError 0x2000) := by decide
theorem test_window_little_endian :
    after (fun t => t.windowWord 1) (step (fanStarted 0x30A#32 1#8 true)) = some 0x5992650B#32 := by decide +kernel
theorem test_radio_fail :
    after (fun t => (t.statusWord, t.req)) (step (withTurn (.radio .fail) ((fanStarted 0x8D#32 1#8 false).setSeq .txWait)))
      = some (0x142#32, none) := by decide
theorem test_hardware_reset :
    after (fun t => (t.epoch, t.statusWord, t.txbuf)) (step (withTurn .hardwareReset (status4E.setTxbuf [(0, 1#8)])))
      = some (1, 0#32, []) := by decide
theorem test_withFetchWord_fan :
    after (fun t => t.results.field) (step (State.reset.withFetchWord 16 0x300)) = some 0x1020#25 := by decide +kernel
theorem test_withFetchWord_ctrl :
    after (fun t => t.seq) (step (State.reset.withFetchWord 32 0x3)) = some .compute := by decide
theorem test_hostLine_fanSet :
    (HostLine.fanSet (digits 5 01101) .off).expand = some [wrTurn 0x08 0x8D#32] := by decide
theorem test_hostLine_fanSet_refused : (HostLine.fanSet (digits 3 101) .off).expand = none := by decide
theorem test_hostLine_matSet :
    (HostLine.matSet (digits 5 10110) (digits 3 100) 7 true true false).expand = some [wrTurn 0x10 0x37416#32] := by
  decide

/-! The open parameters, with example values of the test's own (D32 gives none), the boot requirements (R293) and the
"off" request (program P5). -/

/-- Some parameters: MAT_ZONES the zones 1 to 6, the sides 1 and 4. -/
def someParams : Params where
  yrfeBase := 0x40000000
  matZones := [1#3, 2#3, 3#3, 4#3, 5#3, 6#3]
  matSideZones := (1#3, 4#3)

theorem test_params_accepted : someParams.wf = true := by decide
theorem test_params_refused :
    { someParams with matZones := [1#3, 2#3, 3#3, 4#3, 5#3] }.wf = false ∧
    { someParams with matZones := [1#3, 2#3, 3#3, 4#3, 5#3, 1#3] }.wf = false := by decide
theorem test_systemAddress :
    systemAddress someParams 0x1004 = 0x40001004 ∧ portOffset someParams 0x3FFFFFFF = none := by decide
theorem test_bootLines :
    expandProgram (bootLines someParams true none (some 2)) = some [wrTurn 0x18 0x7E#32, wrTurn 0x14 2#32] := by decide
theorem test_offLines :
    expandProgram (offLines someParams (digits 5 10110) (.ok, .fail) (1, 2)) =
      some [wrTurn 0x10 0x116#32, wrTurn 0x00 5#32, .radio .ok, rdTurn 0x04,
        wrTurn 0x10 0x416#32, wrTurn 0x00 5#32, .radio .fail, rdTurn 0x04, rdTurn 0x04] := by decide
theorem test_turnsRun :
    turnsRun [.matSend false false, .answer .ok, .wait 1]
      [wrTurn 0x00 5#32, .sequencer, .radio .ok, rdTurn 0x04] = true ∧
    turnsRun [.matSend false false, .answer .ok] [.radio .ok, .sequencer, wrTurn 0x00 5#32] = false := by decide

/-! The radio answers by itself where no turn is given (R276): whichever answer it draws, the request ends. -/

theorem test_quiet_radio_answers :
    after (fun t => (t.seq, t.req, t.status.done, t.draws)) (step ((fanStarted 0x8D#32 1#8 false).setSeq .txWait))
      = some (.idle, none, true, 1) := by rfl

/-! Witnesses: for each statement with hypotheses, a state and operands that meet all of them together, one for each
clause at a boundary value of its range. -/

theorem witness_DecodeOfEncodeIsTheInstruction :
    ∀ a ∈ [12#4, 15#4], (Instr.fanSendReservedAction a true 31#5).wellFormed = true := by decide

theorem witness_StepRunsTheDecodedInstruction :
    (withTurn (wrTurn 0x00 3#32) State.reset).inputs = .host (.write 32 0x00 3#32) :: [] ∧
    (withTurn (wrTurn 0x04 6#32) State.reset).inputs = .host (.write 32 0x04 6#32) :: [] ∧
    (∃ sn, (withTurn .sequencer (fanStarted 0x30A#32 1#8 false)).inputs = .sequencer :: [] ∧
      (withTurn .sequencer (fanStarted 0x30A#32 1#8 false)).Enabled sn ∧ sn.op = 0b01#2) ∧
    (∃ sn, (fanStarted 0x30A#32 1#8 false).inputs = [] ∧ (fanStarted 0x30A#32 1#8 false).Enabled sn ∧
      sn.op = 0b01#2) :=
  ⟨rfl, rfl, ⟨_, rfl, ⟨rfl, rfl⟩, rfl⟩, ⟨_, rfl, ⟨rfl, rfl⟩, rfl⟩⟩

theorem witness_SnapshotSelectsItsActionRow :
    (∀ k ∈ [0, 11], k < (fanRows true 31#5).length ∧ (FanCmd.ofWord (BitVec.ofNat 32 (k * 256))).action.toNat = k) ∧
    (∀ k ∈ [12, 15], 12 ≤ (FanCmd.ofWord (BitVec.ofNat 32 (k * 256))).action.toNat) := by decide

theorem witness_CtrlWriteTakesTheFirstRequest :
    ∀ s ∈ [State.reset, fanStarted 0x30A#32 1#8 false], ∀ w ∈ [0x80000001#32, 3#32, 0x1E#32],
      (withTurn (wrTurn 0x00 w) s).inputs = .host (.write 32 0x00 w) :: [] := fun _ _ _ _ => rfl

theorem witness_HardwareResetForgetsTheOperation :
    (withTurn .hardwareReset (fanStarted 0x30A#32 1#8 false)).inputs = .hardwareReset :: [] := rfl

theorem witness_SoftResetInIdle : (State.reset.setFanReps 2#8).seq = .idle := rfl

theorem witness_StartInIdleIsAccepted :
    State.reset.seq = .idle ∧
    ∀ r ∈ [(Instr.fanSend true false, 0b01#2), (.matSend true false, 0b10#2), (.reservedOp0 true false, 0b00#2),
      (.reservedOp3 true false, 0b11#2)], r ∈ startRows true false := by decide

theorem witness_RequestWhileBusySetsOverrun :
    (Instr.fanSend true false, 0b01#2) ∈ startRows true false ∧ (fanStarted 0x30A#32 1#8 false).seq ≠ .idle ∧
    ((fanStarted 0x30A#32 1#8 false).setSeq .txWait).seq ≠ .idle := by decide

theorem witness_FanFieldOfEveryAction : (digits 4 1010).length = 4 ∧ (digits 5 11010).length = 5 := by decide

/-- The hypotheses of the three statements about an enabled fan action, at the least and the greatest repeat count,
for both values of NOTX. -/
theorem witness_FanActionWritesTheResults :
    (Instr.fanSendOff false 10#5, 0x04#8) ∈ fanRows false 10#5 ∧
    ∀ reps ∈ [1#8, 255#8], ∀ notx, ∃ sn, (fanStarted 0x00A#32 reps notx).Enabled sn ∧ sn.op = 0b01#2 ∧
      sn.fanReps ≠ 0#8 ∧ sn.notx = notx := by
  refine ⟨by decide, fun reps h notx => ⟨_, ⟨rfl, rfl⟩, rfl, ?_, rfl⟩⟩
  show reps ≠ 0#8
  revert reps
  decide

/-- The bytes such an action stores reach into TXBUF and end inside it. -/
theorem witness_FanActionWritesThePackedStream :
    0 < (pack (fanStream false 10#5 0x04#8 1#8)).length ∧ (pack (fanStream false 10#5 0x04#8 1#8)).length ≤ 4095 := by
  decide

theorem witness_FanActionCompletesOrIssues :
    (∃ sn, (fanStarted 0x00A#32 1#8 true).Enabled sn ∧ sn.op = 0b01#2 ∧ sn.fanReps ≠ 0#8 ∧ sn.notx = true) ∧
    (∃ sn, (fanStarted 0x00A#32 1#8 false).Enabled sn ∧ sn.op = 0b01#2 ∧ sn.fanReps ≠ 0#8 ∧ sn.notx = false) :=
  ⟨⟨_, ⟨rfl, rfl⟩, rfl, by decide, rfl⟩, ⟨_, ⟨rfl, rfl⟩, rfl, by decide, rfl⟩⟩

theorem witness_RepeatCountZeroIsRejected :
    (Instr.fanSendReservedAction 15#4 true 13#5 ∈ fanInstrs 15#4 true 13#5 ∧
      ∃ sn, (fanStarted 0xF8D#32 0#8 false).Enabled sn ∧ sn.op = 0b01#2 ∧ sn.fanReps = 0#8) ∧
    (∃ sn, (withTurn .sequencer (matStarted 0x400#32 0#8 false)).inputs = .sequencer :: [] ∧
      (withTurn .sequencer (matStarted 0x400#32 0#8 false)).Enabled sn ∧ sn.op = 0b10#2 ∧ sn.matReps = 0#8) :=
  ⟨⟨by decide, _, ⟨rfl, rfl⟩, rfl, rfl⟩, ⟨_, rfl, ⟨rfl, rfl⟩, rfl, rfl⟩⟩

theorem witness_ReservedActionCompletesWithInvalidAction :
    ∃ sn, (withTurn .sequencer (fanStarted 0xC0A#32 1#8 false)).Enabled sn ∧ sn.op = 0b01#2 ∧ sn.fanReps ≠ 0#8 ∧
      (withTurn .sequencer (fanStarted 0xC0A#32 1#8 false)).inputs = .sequencer :: [] ∧
      12 ≤ sn.fanCmd.action.toNat :=
  ⟨_, ⟨rfl, rfl⟩, rfl, by decide, rfl, by decide⟩

/-- The hypotheses of the two statements about a mattress send, for zones 0 and 7 and the least and greatest repeat
count. -/
theorem witness_MatSendWritesTheResults :
    ∀ z ∈ [0x000#32, 0x700#32], ∀ reps ∈ [1#8, 255#8], ∃ sn,
      (withTurn .sequencer (matStarted z reps true)).inputs = .sequencer :: [] ∧
      (withTurn .sequencer (matStarted z reps true)).Enabled sn ∧ sn.op = 0b10#2 ∧ sn.matReps ≠ 0#8 ∧
      sn.zoneMask.getLsbD sn.matCmd.zone.toNat = true := by
  intro z hz reps hr
  refine ⟨_, rfl, ⟨rfl, rfl⟩, rfl, ?_, ?_⟩
  · show reps ≠ 0#8
    revert reps
    decide
  · show (0xFF#8).getLsbD (MatCmd.ofWord z).zone.toNat = true
    simp only [List.mem_cons, List.not_mem_nil, or_false] at hz
    rcases hz with rfl | rfl <;> decide

theorem witness_MatSendBuildsAndEnds :
    ∀ notx, ∃ sn, (withTurn .sequencer (matStarted 0x400#32 1#8 notx)).inputs = .sequencer :: [] ∧
      (withTurn .sequencer (matStarted 0x400#32 1#8 notx)).Enabled sn ∧ sn.op = 0b10#2 ∧ sn.matReps ≠ 0#8 ∧
      sn.zoneMask.getLsbD sn.matCmd.zone.toNat = true ∧ sn.notx = notx ∧
      0 < (pack (matStream sn.matCmd sn.matReps)).length ∧
      (pack (matStream sn.matCmd sn.matReps)).length ≤ 4095 :=
  fun _ => ⟨_, rfl, ⟨rfl, rfl⟩, rfl, (by decide : 1#8 ≠ 0#8),
    (by decide : (0xFF#8).getLsbD (MatCmd.ofWord 0x400#32).zone.toNat = true), rfl,
    (by decide : 0 < (pack (matStream (MatCmd.ofWord 0x400#32) 1#8)).length),
    (by decide : (pack (matStream (MatCmd.ofWord 0x400#32) 1#8)).length ≤ 4095)⟩

theorem witness_ZoneOutsideTheMaskIsRejected :
    ∃ sn, (withTurn .sequencer (start 0b10#2 (State.reset.setZoneMask 0xFE#8))).inputs = .sequencer :: [] ∧
      (withTurn .sequencer (start 0b10#2 (State.reset.setZoneMask 0xFE#8))).Enabled sn ∧ sn.op = 0b10#2 ∧
      sn.matReps ≠ 0#8 ∧ sn.zoneMask.getLsbD sn.matCmd.zone.toNat = false :=
  ⟨_, rfl, ⟨rfl, rfl⟩, rfl, by decide, by decide⟩

theorem witness_ReservedOpCompletesWithIllegalOp :
    ∀ op ∈ [0b00#2, 0b11#2], ∃ sn, (withTurn .sequencer (start op State.reset)).inputs = .sequencer :: [] ∧
      (withTurn .sequencer (start op State.reset)).Enabled sn ∧ sn.op = op :=
  fun _ _ => ⟨_, rfl, ⟨rfl, rfl⟩, rfl⟩

theorem witness_RadioAnswerEndsTheRequest :
    ∀ ans, (withTurn (.radio ans) ((fanStarted 0x8D#32 1#8 false).setSeq .txWait)).inputs = .radio ans :: [] ∧
      (withTurn (.radio ans) ((fanStarted 0x8D#32 1#8 false).setSeq .txWait)).seq = .txWait :=
  fun _ => ⟨rfl, rfl⟩

theorem witness_ControlInstructionsLeaveTheRest :
    (∃ t, (Instr.ctrlWrite 0#2 false true).format ≠ .fanCmd ∧ exec (.ctrlWrite 0#2 false true) State.reset = .next t) ∧
    (∃ t, (Instr.statusW1c true true).format = .statusW1c ∧ exec (.statusW1c true true) State.reset = .next t) ∧
    (∃ t, (Instr.srst 0#2 false true).format ≠ .fanCmd ∧ (fanStarted 0x8D#32 1#8 false).seq ≠ .idle ∧
      exec (.srst 0#2 false true) (fanStarted 0x8D#32 1#8 false) = .next t) :=
  ⟨⟨_, by decide, rfl⟩, ⟨_, by decide, rfl⟩, ⟨_, by decide, by decide, rfl⟩⟩

theorem witness_FanInstructionsLeaveTheRest :
    (Instr.fanSendOff false 10#5 ∈ fanInstrs 12#4 false 10#5 ∧ (Instr.fanSendOff false 10#5, 0x04#8) ∈ fanRows false 10#5 ∧
      ∃ t sn, exec (.fanSendOff false 10#5) (fanStarted 0x00A#32 1#8 false) = .next t ∧
        (fanStarted 0x00A#32 1#8 false).snap = some sn) ∧
    (Instr.fanSendReservedAction 12#4 false 10#5 ∈ fanInstrs 12#4 false 10#5 ∧
      ∃ t, exec (.fanSendReservedAction 12#4 false 10#5) (fanStarted 0xC0A#32 1#8 false) = .next t) ∧
    (∃ t, State.reset.seq ≠ .compute ∧ exec (.fanSendOff false 10#5) State.reset = .next t) :=
  ⟨⟨by decide, by decide, _, _, rfl, rfl⟩, ⟨by decide, _, rfl⟩, ⟨_, by decide, rfl⟩⟩

theorem witness_IllegalAccessIsABusError :
    (∀ a ∈ [(16, 0), (64, 0), (32, 2), (32, 0x1FFF), (32, 0x2000)],
      a.1 ≠ 32 ∨ a.2 % 4 ≠ 0 ∨ 0x1FFF < a.2) ∧
    (withTurn (.host (.read 16 0)) State.reset).inputs = .host (.read 16 0) :: [] ∧
    (withTurn (.host (.write 32 0x2000 0#32)) State.reset).inputs = .host (.write 32 0x2000 0#32) :: [] := by decide

theorem witness_OnlyAnIllegalAccessStops :
    (∃ t, step State.reset = .next t) ∧
    (HostAccess.read 32 0x2000).legal = false ∧
    step (withTurn (.host (.read 32 0x2000)) State.reset) = .fault (.busError 0x2000) :=
  ⟨⟨_, rfl⟩, by decide, rfl⟩

theorem witness_CommandWriteStoresDefinedFields :
    ∀ offset ∈ [0x08, 0x0C, 0x10, 0x14, 0x18], (withTurn (wrTurn offset 0xFFFFFFFF#32) State.reset).inputs
      = .host (.write 32 offset 0xFFFFFFFF#32) :: [] := by decide

theorem witness_WriteElsewhereIsIgnored :
    ∀ offset ∈ [0x1C, 0x20, 0x1000, 0x1FFC], (withTurn (wrTurn offset 1#32) State.reset).inputs
      = .host (.write 32 offset 1#32) :: [] ∧ offset % 4 = 0 ∧ offset ≤ 0x1FFF ∧ 0x1C ≤ offset := by decide

/-- An idle read of every kind, and the busy reads at the ends of the two ranges whose values are specified. -/
theorem witness_ReadReturnsTheStoredWord :
    (∀ offset ∈ [0x00, 0x20, 0x38, 0x1000, 0x1FFC], (withTurn (rdTurn offset) State.reset).inputs
      = .host (.read 32 offset) :: [] ∧ offset % 4 = 0 ∧ offset ≤ 0x1FFF ∧
      (withTurn (rdTurn offset) State.reset).seq = .idle) ∧
    (∀ offset ∈ [0x00, 0x1C, 0x3C, 0xFFC], (withTurn (rdTurn offset) (fanStarted 0x8D#32 1#8 false)).inputs
      = .host (.read 32 offset) :: [] ∧ offset % 4 = 0 ∧ offset ≤ 0x1FFF ∧
      (offset < 0x20 ∨ (0x3C ≤ offset ∧ offset ≤ 0xFFF))) := by decide

theorem witness_BusyReadIsDrawnFreshly :
    ∀ offset ∈ [0x20, 0x38, 0x1000, 0x1FFC], (withTurn (rdTurn offset) (fanStarted 0x8D#32 1#8 false)).inputs
      = .host (.read 32 offset) :: [] ∧ offset % 4 = 0 ∧
      (withTurn (rdTurn offset) (fanStarted 0x8D#32 1#8 false)).seq ≠ .idle ∧
      ((0x20 ≤ offset ∧ offset ≤ 0x38) ∨ (0x1000 ≤ offset ∧ offset ≤ 0x1FFF)) := by decide

theorem witness_WindowWordIsLittleEndian : 0 < 1024 ∧ 1023 < 1024 := by decide

theorem witness_ReservedOffsetReadsZero :
    ∀ offset ∈ [0x1C, 0x3C, 0x40, 0xFFC], (offset = 0x1C ∨ offset = 0x3C ∨ (0x40 ≤ offset ∧ offset ≤ 0xFFF)) ∧
      offset % 4 = 0 ∧
      (withTurn (rdTurn offset) State.reset).inputs = .host (.read 32 offset) :: [] ∧
      (withTurn (wrTurn offset 1#32) State.reset).inputs = .host (.write 32 offset 1#32) :: [] := by decide

theorem witness_FanStreamLength : (bin 13 0x1A20).length = 13 := by decide

theorem witness_UnpackOfPackIsThePaddedString :
    (digits 9 101000001).length = (bin 9 0x141).length ∧ pack (digits 9 101000001) = pack (bin 9 0x141) := by decide

/-- The first and the last symbol of a string whose packed bytes TXBUF holds. -/
theorem witness_SymbolIsItsBitOfItsByte :
    0 < (digits 9 101000001).length ∧ 8 < (digits 9 101000001).length ∧ (digits 9 101000001).length ≤ 32768 ∧
    ∀ j (hj : j < (pack (digits 9 101000001)).length),
      (State.reset.setTxbuf [(0, 0xA0#8), (1, 0x80#8)]).txbufByte j = (pack (digits 9 101000001))[j] := by
  refine ⟨by decide, by decide, by decide, fun j hj => ?_⟩
  have h : j < 2 := hj
  interval_cases j <;> rfl

theorem witness_FanStreamHoldsTheField :
    (bin 13 0x1A20).length = 13 ∧ (1 ≤ 1 ∧ 1 ≤ 16 ∧ 0 < 13) ∧ (1 ≤ 16 ∧ 16 ≤ 16 ∧ 12 < 13) := by decide

theorem witness_MatStreamHoldsTheFieldReversed :
    (bin 25 0x4CB075).length = 25 ∧ (1 ≤ 1 ∧ 1 ≤ 3 ∧ 0 < 25) ∧ (1 ≤ 3 ∧ 3 ≤ 3 ∧ 24 < 25) := by decide

theorem witness_SequentialFanFramerIsFanModulate :
    (bin 13 0x1A20).length = 13 ∧ 1 ≤ 1 ∧ 36 + 75 * 1 ≤ 111 := by decide

theorem witness_SequentialMatFramerIsMatModulate :
    (bin 25 0x4CB075).length = 25 ∧ 1 ≤ 1 ∧ 87 * 1 ≤ 87 := by decide

theorem witness_OnePayloadBitMovesTheChecksumByOne :
    let p := matPayload (MatCmd.ofWord 0x10000#32)
    p.length = 19 ∧ (0 < p.length ∧ p[0]? = some false) ∧ (18 < p.length ∧ p[18]? = some true) := by decide

theorem witness_ReversalMattersButForPalindromes :
    (bin 25 0x080020).length = 25 ∧ (1 : Nat) ≤ 1 ∧ (bin 25 0x080020).reverse = bin 25 0x080020 ∧
    (bin 25 0x4CB075).length = 25 ∧ (bin 25 0x4CB075).reverse ≠ bin 25 0x4CB075 := by decide

/-- A state with a running operation meets the invariant, and its compute step has a next state. -/
theorem witness_EveryStepKeepsTheInvariant :
    (fanStarted 0x30A#32 1#8 false).Inv ∧ ∃ t, step (fanStarted 0x30A#32 1#8 false) = .next t := by
  refine ⟨⟨rfl, fun i h => absurd h (Nat.not_lt_zero i), .inl rfl, fun _ => ⟨rfl, rfl, _, rfl, rfl⟩, ?_, ?_⟩, _, rfl⟩
  · exact ⟨fun h => absurd h (by decide), fun h => absurd rfl h⟩
  · intro r h
    exact absurd h (by simp [fanStarted, start, storeCtrl, State.setSeq, State.setStatus, State.setSnap, State.setCtrl, State.setFanCmd, State.setFanReps, State.reset])

theorem witness_TransmitOnlyByACheckedSend :
    (∃ t r, step (fanStarted 0x30A#32 1#8 false) = .next t ∧
      t.history = (fanStarted 0x30A#32 1#8 false).history ++ [.transmit r]) ∧
    (∃ t r, step (matStarted 0x400#32 1#8 false) = .next t ∧
      t.history = (matStarted 0x400#32 1#8 false).history ++ [.transmit r]) :=
  ⟨⟨_, _, rfl, rfl⟩, ⟨_, _, rfl, rfl⟩⟩

theorem witness_SequencerMovesOnlyAsStated :
    (∃ t, step (withTurn (wrTurn 0x00 3#32) State.reset) = .next t ∧ State.reset.seq = .idle) ∧
    (∃ t, step (fanStarted 0x30A#32 1#8 false) = .next t ∧ (fanStarted 0x30A#32 1#8 false).seq = .compute) ∧
    (∃ t, step (withTurn (.radio .ok) ((fanStarted 0x8D#32 1#8 false).setSeq .txWait)) = .next t ∧
      (withTurn (.radio .ok) ((fanStarted 0x8D#32 1#8 false).setSeq .txWait)).seq = .txWait) ∧
    (∃ t, step ((fanStarted 0x8D#32 1#8 false).setSeq .txWait) = .next t ∧
      ((fanStarted 0x8D#32 1#8 false).setSeq .txWait).inputs = []) :=
  ⟨⟨_, rfl, rfl⟩, ⟨_, rfl, rfl⟩, ⟨_, rfl, rfl⟩, ⟨_, rfl, rfl⟩⟩

theorem witness_OnlyTheComputeStepWritesTxbuf :
    (∃ t, step State.reset = .next t ∧ State.reset.inputs.head? ≠ some .hardwareReset ∧
      State.reset.seq ≠ .compute ∧ t.seq = State.reset.seq) ∧
    (∃ t, step (fanStarted 0x30A#32 1#8 true) = .next t ∧
      (fanStarted 0x30A#32 1#8 true).inputs.head? ≠ some .hardwareReset ∧ t.results.byteLen.toNat ≤ 14) :=
  ⟨⟨_, rfl, by decide, by decide, rfl⟩, ⟨_, rfl, by decide, by decide⟩⟩

theorem witness_OverrunIsSticky :
    (∃ t, step status4E = .next t ∧ status4E.status.ovr = true) ∧
    (∃ t, step (withTurn (wrTurn 0x04 4#32) status4E) = .next t ∧
      (withTurn (wrTurn 0x04 4#32) status4E).status.ovr = true) :=
  ⟨⟨_, rfl, rfl⟩, ⟨_, rfl, rfl⟩⟩

theorem witness_EveryCompletionSetsDone :
    ∃ t, step (fanStarted 0x30A#32 0#8 false) = .next t ∧
      (fanStarted 0x30A#32 0#8 false).inputs.head? ≠ some .hardwareReset ∧
      (fanStarted 0x30A#32 0#8 false).seq ≠ .idle ∧ t.seq = .idle :=
  ⟨_, rfl, by decide, by decide, rfl⟩

theorem witness_ComputeStepReadsOnlyTheSnapshot :
    ∃ t, (withTurn .sequencer (fanStarted 0x30A#32 1#8 false)).inputs = .sequencer :: [] ∧
      step (withTurn .sequencer (fanStarted 0x30A#32 1#8 false)) = .next t :=
  ⟨_, rfl, rfl⟩

theorem witness_EveryAcceptedStartEndsWithItsCode :
    ∀ w ∈ [1#32, 3#32, 5#32, 7#32, 0xB#32], State.reset.seq = .idle ∧ w.getLsbD 0 = true ∧ w.getLsbD 31 = false ∧
      (∀ ans, (State.reset.setInputs [wrTurn 0x00 w, .sequencer, .radio ans]).inputs
        = [.host (.write 32 0x00 w), .sequencer, .radio ans]) ∧
      (State.reset.setInputs [wrTurn 0x00 w]).inputs = [.host (.write 32 0x00 w)] := by
  intro w hw
  refine ⟨rfl, ?_, ?_, fun _ => rfl, rfl⟩ <;>
    (simp only [List.mem_cons, List.not_mem_nil, or_false] at hw
     rcases hw with rfl | rfl | rfl | rfl | rfl <;> decide)

/-- The hypotheses of the radio's fairness, for a request pending with an access and no radio's turn left. -/
theorem witness_RadioFairness :
    (withTurn (rdTurn 0x04) ((fanStarted 0x8D#32 1#8 false).setSeq .txWait)).seq = .txWait ∧
    ∀ a ∈ (withTurn (rdTurn 0x04) ((fanStarted 0x8D#32 1#8 false).setSeq .txWait)).inputs, a.legal = true := by
  decide

end Sys2Proof.Tests
end

section
/-! PROOFS. What the two modulators and a build leave in the result registers (R162, R202, R229). -/

namespace Sys2Proof.Machine

@[simp] theorem length_fanModulate (f : BitString) (r : Nat) :
    (fanModulate f r).length = 36 + r * (3 * f.length + 36) := by
  simp [fanModulate]

@[simp] theorem length_matModulate (f : BitString) (r : Nat) :
    (matModulate f r).length = r * (12 + 3 * f.length) := by
  simp [matModulate]

/-- Whatever the action, an encoded fan command has 13 bits (R131). -/
theorem length_of_fanEncode {len : Bool} {addr : BitVec 5} {action : BitVec 4} {f : BitString}
    (h : fanEncode (addrString len addr) action = some f) : f.length = 13 := by
  obtain ⟨code, -, rfl⟩ := Option.map_eq_some_iff.mp h
  exact length_fanField len addr code

/-- Only the twelve operand bits and the three flags of a payload can be 1 (R180). -/
theorem popcount_matPayload_le (m : MatCmd) : popcount (matPayload m) ≤ 15 := by
  have hzone := popcount_le_length (bin 3 m.zone.toNat)
  have hcode := popcount_le_length (bin 5 m.code.toNat)
  have hheat := popcount_le_length (bin 4 m.heat.toNat)
  have hflag (b : Bool) : popcount (flagString b) ≤ 1 := popcount_le_length (flagString b)
  have hstay := hflag m.stayOn
  have hpre := hflag m.preheat
  have hon := hflag m.on
  simp only [length_bin] at hzone hcode hheat
  simp only [matPayload, popcount_append, popcount_zeros]
  omega

/-- The checksum's two leading bits are 0, so a mattress field is below 2^23 (R181, R182). -/
theorem val_matEncode_lt (m : MatCmd) : val (matEncode m) < 2 ^ 23 := by
  have hsum := popcount_matPayload_le m
  have hpay := val_lt (matPayload m)
  rw [length_matPayload] at hpay
  rw [matEncode, val_append, checksum, val_bin, length_matPayload,
    Nat.mod_eq_of_lt (by omega : popcount (matPayload m) < 2 ^ 6)]
  omega

/-- The result registers `r` are those of a build that packed `bytes`. -/
structure Results.Describes (r : Results) (bytes : List Byte) : Prop where
  sound : r.Sound
  built : r ≠ State.reset.results
  byteLen : r.byteLen.toNat = bytes.length
  fits : bytes.length ≤ txbufBytes

/-- A repeat count that passed its check is 1 to 255 (R264). -/
theorem reps_bounds {reps : BitVec 8} (h : reps ≠ 0#8) : 1 ≤ reps.toNat ∧ reps.toNat ≤ 255 := by
  have hlt := reps.isLt
  have hne : reps.toNat ≠ 0 := fun h0 => h (BitVec.eq_of_toNat_eq h0)
  omega

section
variable (f : BitString) (n : Nat) (syms : BitString) (freq : BitVec 32) (rate : BitVec 16) (modn : BitVec 2)
  (s : State)

theorem build_field_toNat (h : val f < 2 ^ 25) : (build f n syms freq rate modn s).results.field.toNat = val f :=
  Nat.mod_eq_of_lt h

theorem build_symLen_toNat (h : syms.length < 2 ^ 16) :
    (build f n syms freq rate modn s).results.symLen.toNat = syms.length :=
  Nat.mod_eq_of_lt h

theorem build_byteLen_toNat (h : (pack syms).length < 2 ^ 13) :
    (build f n syms freq rate modn s).results.byteLen.toNat = (pack syms).length :=
  Nat.mod_eq_of_lt h

/-- A build within TXBUF is described by its result registers, once these are those of one of the protocols. -/
theorem build_describes (hn : BitVec.ofNat 5 n ≠ 0#5) (hfits : (pack syms).length ≤ txbufBytes)
    (hsound : (build f n syms freq rate modn s).results.Sound) :
    (build f n syms freq rate modn s).results.Describes (pack syms) where
  sound := hsound
  built := fun h => hn (congrArg Results.fieldLen h)
  byteLen := build_byteLen_toNat f n syms freq rate modn s (hfits.trans_lt (by decide))
  fits := hfits

end

theorem build_fan_describes {f : BitString} (hf : f.length = 13) {reps : BitVec 8} (hr : reps ≠ 0#8) (s : State) :
    (build f 13 (fanModulate f reps.toNat) fanFreq fanRate askOok s).results.Describes
      (pack (fanModulate f reps.toNat)) := by
  obtain ⟨hlo, hhi⟩ := reps_bounds hr
  have hval : val f < 2 ^ 13 := hf ▸ val_lt f
  have hsyms : (fanModulate f reps.toNat).length = 36 + 75 * reps.toNat := by
    rw [length_fanModulate, hf]; omega
  have hbytes : (pack (fanModulate f reps.toNat)).length = (36 + 75 * reps.toNat + 7) / 8 := by
    rw [length_pack, hsyms]
  refine build_describes _ _ _ _ _ _ _ (by decide) (by rw [txbufBytes]; omega)
    (.inr ⟨reps.toNat, hlo, hhi, .inl ⟨rfl, ?_, ?_, ?_, rfl, rfl, rfl⟩⟩)
  · rwa [build_field_toNat _ _ _ _ _ _ _ (by omega)]
  · rw [build_symLen_toNat _ _ _ _ _ _ _ (by omega), hsyms]
  · rw [build_byteLen_toNat _ _ _ _ _ _ _ (by omega), hbytes]

theorem build_mat_describes (m : MatCmd) {reps : BitVec 8} (hr : reps ≠ 0#8) (s : State) :
    (build (matEncode m) 25 (matModulate (matEncode m) reps.toNat) matFreq matRate askOok s).results.Describes
      (pack (matModulate (matEncode m) reps.toNat)) := by
  obtain ⟨hlo, hhi⟩ := reps_bounds hr
  have hval : val (matEncode m) < 2 ^ 23 := val_matEncode_lt m
  have hsyms : (matModulate (matEncode m) reps.toNat).length = 87 * reps.toNat := by
    rw [length_matModulate, length_matEncode]; omega
  have hbytes : (pack (matModulate (matEncode m) reps.toNat)).length = (87 * reps.toNat + 7) / 8 := by
    rw [length_pack, hsyms]
  refine build_describes _ _ _ _ _ _ _ (by decide) (by rw [txbufBytes]; omega)
    (.inr ⟨reps.toNat, hlo, hhi, .inr ⟨rfl, ?_, ?_, ?_, rfl, rfl, rfl⟩⟩)
  · rwa [build_field_toNat _ _ _ _ _ _ _ (by omega)]
  · rw [build_symLen_toNat _ _ _ _ _ _ _ (by omega), hsyms]
  · rw [build_byteLen_toNat _ _ _ _ _ _ _ (by omega), hbytes]

end Sys2Proof.Machine
end

section
/-! PROOFS. What a step with a next state does to the operation in progress and to the buffer, one case per way. -/

namespace Sys2Proof.Machine

/-- `t` has the buffer and the operation of `s`: TXBUF, the results, SEQ, SNAP, REQ, LAST_OP and ERR are kept, and
DONE is not set. -/
structure State.SameWork (s t : State) : Prop where
  txbuf : t.txbuf = s.txbuf
  epoch : t.epoch = s.epoch
  results : t.results = s.results
  seq : t.seq = s.seq
  snap : t.snap = s.snap
  req : t.req = s.req
  lastOp : t.status.lastOp = s.status.lastOp
  err : t.status.err = s.status.err
  done : s.status.done = false → t.status.done = false

theorem State.sameWork_storeCtrl (op : BitVec 2) (notx irqEn : Bool) (s : State) :
    s.SameWork (storeCtrl op notx irqEn s) := ⟨rfl, rfl, rfl, rfl, rfl, rfl, rfl, rfl, id⟩

theorem State.sameWork_setOvr (s : State) : s.SameWork (setOvr s) := ⟨rfl, rfl, rfl, rfl, rfl, rfl, rfl, rfl, id⟩

theorem State.sameWork_readPort (offset : Nat) (s : State) : s.SameWork (readPort offset s) := by
  rw [readPort_eq]; exact ⟨rfl, rfl, rfl, rfl, rfl, rfl, rfl, rfl, id⟩

theorem State.sameWork_writeReg (offset : Nat) (w : Word) (s : State) : s.SameWork (writeReg offset w s) := by
  rcases writeReg_cases offset w s with ⟨-, e⟩ | ⟨-, e⟩ | ⟨-, e⟩ | ⟨-, e⟩ | ⟨-, e⟩ | e <;> rw [e] <;>
    exact ⟨rfl, rfl, rfl, rfl, rfl, rfl, rfl, rfl, id⟩

theorem writeReg_status (offset : Nat) (w : Word) (s : State) : (writeReg offset w s).status = s.status := by
  rcases writeReg_cases offset w s with ⟨-, e⟩ | ⟨-, e⟩ | ⟨-, e⟩ | ⟨-, e⟩ | ⟨-, e⟩ | e <;> rw [e] <;> rfl

theorem State.SameWork.trans {s t u : State} (h : s.SameWork t) (k : t.SameWork u) : s.SameWork u where
  txbuf := k.txbuf.trans h.txbuf
  epoch := k.epoch.trans h.epoch
  results := k.results.trans h.results
  seq := k.seq.trans h.seq
  snap := k.snap.trans h.snap
  req := k.req.trans h.req
  lastOp := k.lastOp.trans h.lastOp
  err := k.err.trans h.err
  done := k.done ∘ h.done

/-- The state a turn acts on: `s` with the head of its turns taken off. -/
def State.turnTaken (s : State) : State := s.setInputs s.inputs.tail

theorem State.sameWork_turnTaken (s : State) : s.SameWork s.turnTaken :=
  ⟨rfl, rfl, rfl, rfl, rfl, rfl, rfl, rfl, id⟩

theorem State.turnTaken_of_nil {s : State} (h : s.inputs = []) : s.turnTaken = s := by
  cases s; cases h; rfl

/-- TXBUF and the result registers after a build: `bytes` from index 0 on, and the results `r` (R229). -/
def commit (bytes : List Byte) (r : Results) (s : State) : State :=
  (s.setTxbuf (s.txbuf.writeBytes 0 bytes)).setResults r

theorem build_eq_commit (f : BitString) (n : Nat) (syms : BitString) (freq : BitVec 32) (rate : BitVec 16)
    (modn : BitVec 2) (s : State) :
    build f n syms freq rate modn s = commit (pack syms) (build f n syms freq rate modn s).results s := rfl

/-- Everything a step from `s` to `t` can be. -/
inductive StepEffect (s t : State) : Prop
  | hardwareReset (head : s.inputs.head? = some .hardwareReset) (eq : t = hardwareReset s.turnTaken)
  | softReset (w : Word) (head : s.inputs.head? = some (.host (.write 32 0x00 w))) (srst : w.getLsbD 31 = true)
      (idle : s.seq = .idle) (eq : t = softReset s.turnTaken)
  | start (w : Word) (head : s.inputs.head? = some (.host (.write 32 0x00 w))) (srst : w.getLsbD 31 = false)
      (started : w.getLsbD 0 = true) (idle : s.seq = .idle) (op : BitVec 2) (notx irqEn : Bool)
      (eq : t = start op (storeCtrl op notx irqEn s.turnTaken))
  | statusWrite (w : Word) (head : s.inputs.head? = some (.host (.write 32 0x04 w)))
      (eq : t = s.turnTaken.setStatus { s.status with
        done := s.status.done && !w.getLsbD 1, ovr := s.status.ovr && !w.getLsbD 2 })
  | answer (head : s.inputs = [] ∨ ∃ ans, s.inputs.head? = some (.radio ans)) (pending : s.seq = .txWait)
      (err : ErrCode) (draws : Nat) (eq : t = complete err ((s.turnTaken.setDraws draws).setReq none))
  | failedCheck (head : s.inputs = [] ∨ s.inputs.head? = some .sequencer) (running : s.seq = .compute)
      (err : ErrCode) (eq : t = complete err s.turnTaken)
  | build (head : s.inputs = [] ∨ s.inputs.head? = some .sequencer) (running : s.seq = .compute)
      (sn : Snapshot) (snap : s.snap = some sn) (op : sn.op = 0b01#2 ∨ sn.op = 0b10#2) (bytes : List Byte)
      (r : Results) (describes : r.Describes bytes) (eq : t = finish sn.notx (commit bytes r s.turnTaken))
  | unrelated (same : s.SameWork t) (ovr : s.status.ovr = true → t.status.ovr = true)

/-- A write of STATUS can clear DONE and OVR, and sets neither (R234). -/
theorem State.sameWork_of_statusWrite {s t : State} {w : Word} (h : t = s.turnTaken.setStatus { s.status with
    done := s.status.done && !w.getLsbD 1, ovr := s.status.ovr && !w.getLsbD 2 }) : s.SameWork t := by
  subst h
  exact ⟨rfl, rfl, rfl, rfl, rfl, rfl, rfl, rfl, fun hdone => by simp [hdone]⟩

/-- A write of CTRL is the soft reset, an accepted START, or leaves the operation alone. -/
theorem stepEffect_of_ctrlWrite {s t : State} {w : Word} (head : s.inputs.head? = some (.host (.write 32 0x00 w)))
    (h : exec (decode .ctrlCmd w) s.turnTaken = .next t) : StepEffect s t := by
  rcases exec_ctrl_cases w s.turnTaken with ⟨hsrst, hidle, e⟩ | ⟨hsrst, hstart, hidle, e⟩ | ⟨-, e⟩ | e <;>
    rw [e] at h <;> cases h
  · exact .softReset w head hsrst hidle rfl
  · exact .start w head hsrst hstart hidle _ _ _ rfl
  · exact .unrelated (s.sameWork_turnTaken.trans ((State.sameWork_storeCtrl _ _ _ _).trans (State.sameWork_setOvr _)))
      fun _ => rfl
  · exact .unrelated (s.sameWork_turnTaken.trans (State.sameWork_storeCtrl _ _ _ _)) id

/-- The sequencer's turn is the end of an operation that failed a check, a build, or nothing. -/
theorem stepEffect_of_sequencerTurn {s t : State} (head : s.inputs = [] ∨ s.inputs.head? = some .sequencer)
    (h : sequencerTurn s.turnTaken = .next t) : StepEffect s t := by
  rcases sequencerTurn_next h with rfl | ⟨hseq, sn, hsnap, ⟨err, -, rfl⟩ | ⟨f, -, hop, hreps, hf, rfl⟩ |
    ⟨-, hop, hreps, -, rfl⟩⟩
  · exact .unrelated s.sameWork_turnTaken id
  · exact .failedCheck head hseq err rfl
  · exact .build head hseq sn hsnap (.inl hop) _ _ (build_fan_describes (length_of_fanEncode hf) hreps s.turnTaken)
      (congrArg (finish sn.notx) (build_eq_commit ..))
  · exact .build head hseq sn hsnap (.inr hop) _ _ (build_mat_describes sn.matCmd hreps s.turnTaken)
      (congrArg (finish sn.notx) (build_eq_commit ..))

/-- The radio's turn is the end of the operation that waits for it, or nothing. -/
theorem stepEffect_of_radioAnswer {s : State} {ans : RadioAnswer} (head : s.inputs.head? = some (.radio ans)) :
    StepEffect s (radioAnswer ans s.turnTaken) := by
  by_cases hw : s.turnTaken.seq = .txWait
  · exact .answer (.inr ⟨ans, head⟩) hw ans.err s.draws (radioAnswer_txWait hw ans)
  · rw [radioAnswer_other hw]
    exact .unrelated s.sameWork_turnTaken id

theorem step_effect {s t : State} (h : step s = .next t) : StepEffect s t := by
  rcases step_cases h with ⟨head, rfl⟩ | ⟨offset, -, rfl⟩ | ⟨w, head, e⟩ | ⟨w, head, e⟩ | ⟨offset, w, -, -, -, rfl⟩ |
    ⟨ans, head, rfl⟩ | ⟨hnil, hw, rfl⟩ | ⟨head, e⟩
  · exact .hardwareReset head rfl
  · exact .unrelated (s.sameWork_turnTaken.trans (State.sameWork_readPort _ _)) (by rw [readPort_eq]; exact id)
  · exact stepEffect_of_ctrlWrite head e
  · cases e
    exact .statusWrite w head rfl
  · exact .unrelated (s.sameWork_turnTaken.trans (State.sameWork_writeReg _ _ _)) (by rw [writeReg_status]; exact id)
  · exact stepEffect_of_radioAnswer head
  · exact .answer (.inl hnil) hw _ _ (by rw [State.turnTaken_of_nil hnil])
  · exact stepEffect_of_sequencerTurn head e

end Sys2Proof.Machine
end

section
/-! PROOFS. Every step keeps the invariant: what of it each effect of a step establishes (R37 to R40, R74). -/

namespace Sys2Proof.Machine

/-- The part of the invariant about TXBUF and the result registers. -/
structure State.BufferSound (s : State) : Prop where
  wf : s.txbuf.wf = true
  held : s.BufferHeld
  results : s.results.Sound

theorem State.Inv.bufferSound {s : State} (h : s.Inv) : s.BufferSound := ⟨h.bufferWf, h.bufferHeld, h.resultsSound⟩

/-- With the result registers of reset no byte of TXBUF is claimed. -/
theorem State.bufferSound_of_reset_results {s : State} (hwf : s.txbuf.wf = true)
    (hr : s.results = State.reset.results) : s.BufferSound where
  wf := hwf
  held := fun i hi => by rw [hr] at hi; exact absurd hi (Nat.not_lt_zero i)
  results := .inl hr

theorem State.BufferSound.commit {s : State} (hwf : s.txbuf.wf = true) {bytes : List Byte} {r : Results}
    (hr : r.Describes bytes) : (commit bytes r s).BufferSound where
  wf := Memory.wf_writeBytes hwf (by rw [Nat.zero_add]; exact hr.fits)
  held := fun i hi => by
    have hlt : i < bytes.length := hr.byteLen ▸ hi
    exact ⟨bytes[i], Nat.zero_add i ▸ Memory.read?_writeBytes_at s.txbuf 0 i bytes hlt⟩
  results := hr.sound

/-- In IDLE the operation and the request need nothing but that no request is pending. -/
theorem State.Inv.of_idle {s : State} (hbuf : s.BufferSound) (hidle : s.seq = .idle) (hreq : s.req = none) :
    s.Inv where
  bufferWf := hbuf.wf
  bufferHeld := hbuf.held
  resultsSound := hbuf.results
  operationSound := fun h => absurd hidle h
  requestSound := by simp [State.RequestSound, hidle, hreq]

/-- Outside TX_WAIT no request is pending. -/
theorem State.Inv.req_none {s : State} (h : s.Inv) (hseq : s.seq ≠ .txWait) : s.req = none := by
  by_contra hreq
  exact hseq (h.requestSound.1.mpr hreq)

theorem State.reset_inv : State.reset.Inv :=
  .of_idle (State.bufferSound_of_reset_results Memory.wf_nil rfl) rfl rfl

theorem hardwareReset_inv (s : State) : (hardwareReset s).Inv :=
  .of_idle (State.bufferSound_of_reset_results Memory.wf_nil rfl) rfl rfl

theorem softReset_inv {s : State} (hwf : s.txbuf.wf = true) : (softReset s).Inv :=
  .of_idle (State.bufferSound_of_reset_results hwf rfl) rfl rfl

theorem complete_inv {s : State} (hbuf : s.BufferSound) (hreq : s.req = none) (e : ErrCode) :
    (complete e s).Inv :=
  .of_idle ⟨hbuf.wf, hbuf.held, hbuf.results⟩ rfl hreq

/-- An accepted START clears DONE and ERR and takes the snapshot; nothing is pending yet (R223). -/
theorem start_inv {s : State} (hbuf : s.BufferSound) (hreq : s.req = none) (op : BitVec 2) : (start op s).Inv where
  bufferWf := hbuf.wf
  bufferHeld := hbuf.held
  resultsSound := hbuf.results
  operationSound := fun _ => ⟨rfl, rfl, s.snapshot op, rfl, rfl⟩
  requestSound := by simp [State.RequestSound, start, hreq]

/-- The hand-over makes REQ present with what TXBUF and the results hold (R230). -/
theorem issue_inv {s : State} (hbuf : s.BufferSound) (hop : s.OperationSound) (hseq : s.seq = .compute)
    (hres : s.results ≠ State.reset.results) {sn : Snapshot} (hsnap : s.snap = some sn) (hnotx : sn.notx = false)
    (hsend : sn.op = 0b01#2 ∨ sn.op = 0b10#2) : (issue s).Inv where
  bufferWf := hbuf.wf
  bufferHeld := hbuf.held
  resultsSound := hbuf.results
  operationSound := fun _ => hop (by simp [hseq])
  requestSound := by
    refine ⟨by simp [issue], fun r hr => ?_⟩
    cases hr
    exact ⟨rfl, hres, sn, hsnap, hnotx, hsend⟩

/-- The end of a build: a dry run completes, a send is handed over. -/
theorem finish_commit_inv {s : State} (h : s.Inv) (hseq : s.seq = .compute) {sn : Snapshot}
    (hsnap : s.snap = some sn) (hsend : sn.op = 0b01#2 ∨ sn.op = 0b10#2) {bytes : List Byte} {r : Results}
    (hr : r.Describes bytes) : (finish sn.notx (commit bytes r s)).Inv := by
  have hbuf : (commit bytes r s).BufferSound := .commit h.bufferWf hr
  cases hnotx : sn.notx
  · exact issue_inv hbuf h.operationSound hseq hr.built hsnap hnotx hsend
  · exact complete_inv hbuf (h.req_none (by simp [hseq])) .ok

/-- The bytes read from TXBUF depend on the written bytes and the last hardware reset alone. -/
theorem State.txbufByte_congr {s t : State} (hbuf : t.txbuf = s.txbuf) (hepoch : t.epoch = s.epoch) :
    t.txbufByte = s.txbufByte := by
  funext j
  simp only [State.txbufByte, hbuf, hepoch]

theorem State.SameWork.txbufByte {s t : State} (h : s.SameWork t) : t.txbufByte = s.txbufByte :=
  State.txbufByte_congr h.txbuf h.epoch

theorem State.SameWork.request {s t : State} (h : s.SameWork t) : t.request = s.request := by
  simp only [State.request, State.txbufPrefix, h.txbufByte, h.results]

/-- The invariant speaks of the buffer and the operation only. -/
theorem State.SameWork.inv {s t : State} (h : s.SameWork t) (hs : s.Inv) : t.Inv where
  bufferWf := h.txbuf ▸ hs.bufferWf
  bufferHeld := by
    simpa only [State.BufferHeld, h.results, h.txbuf] using hs.bufferHeld
  resultsSound := h.results ▸ hs.resultsSound
  operationSound := fun hbusy => by
    obtain ⟨hdone, herr, hsnap⟩ := hs.operationSound (h.seq ▸ hbusy)
    exact ⟨h.done hdone, h.err.trans herr, by rwa [h.snap, h.lastOp]⟩
  requestSound := by
    simpa only [State.RequestSound, h.seq, h.req, h.request, h.results, h.snap] using hs.requestSound

/-- Settles O53: each effect of a step establishes the invariant, from what the invariant says before it. -/
theorem everyStepKeepsTheInvariant : Obligations.EveryStepKeepsTheInvariant := by
  intro s t hs h
  have hturn : s.turnTaken.Inv := s.sameWork_turnTaken.inv hs
  have hidleReq (hidle : s.seq = .idle) : s.req = none := hs.req_none (by simp [hidle])
  cases step_effect h with
  | hardwareReset _ eq => exact eq ▸ hardwareReset_inv _
  | softReset w _ _ _ eq => exact eq ▸ softReset_inv hs.bufferWf
  | start w _ _ _ hidle op notx irqEn eq =>
    have hstored := (State.sameWork_storeCtrl op notx irqEn s.turnTaken).inv hturn
    exact eq ▸ start_inv hstored.bufferSound (hidleReq hidle) op
  | statusWrite w _ eq => exact (State.sameWork_of_statusWrite eq).inv hs
  | answer _ _ err draws eq =>
    have hbuf : ((s.turnTaken.setDraws draws).setReq none).BufferSound :=
      ⟨hs.bufferWf, hs.bufferHeld, hs.resultsSound⟩
    exact eq ▸ complete_inv hbuf rfl err
  | failedCheck _ hrun err eq => exact eq ▸ complete_inv hturn.bufferSound (hs.req_none (by simp [hrun])) err
  | build _ hrun sn hsnap hop bytes r hr eq => exact eq ▸ finish_commit_inv hturn hrun hsnap hop hr
  | unrelated same _ => exact same.inv hs

end Sys2Proof.Machine
end

section
/-! PROOFS. What a step can do to SEQ, TXBUF and OVR (R37, R38, R44), and what the compute step reads (R39, R43). -/

namespace Sys2Proof.Machine

/-- Settles O52: nothing of TXBUF is written at reset, the results are those of reset, and no request is pending. -/
theorem invariantHoldsAtReset : Obligations.InvariantHoldsAtReset := State.reset_inv

theorem RadioAnswer.eq_ok_or_eq_fail (ans : RadioAnswer) : ans = .ok ∨ ans = .fail := by
  cases ans
  · exact .inl rfl
  · exact .inr rfl

theorem finish_seq_ne_compute (notx : Bool) (s : State) : (finish notx s).seq ≠ .compute := by
  cases notx <;> exact fun h => Seq.noConfusion h

/-- Settles O55: of the effects of a step, each is ruled out by the sequencer state or is one of the stated moves. -/
theorem sequencerMovesOnlyAsStated : Obligations.SequencerMovesOnlyAsStated := by
  intro s t h
  cases step_effect h with
  | hardwareReset head eq =>
    have hidle : t.seq = .idle := by rw [eq]; rfl
    exact ⟨fun _ => .inl hidle, fun _ => .inr (.inr ⟨hidle, head⟩),
      fun _ => .inr ⟨hidle, .inr (.inr (.inr head))⟩⟩
  | softReset w _ _ hidle eq =>
    have ht : t.seq = .idle := by rw [eq]; rfl
    exact ⟨fun _ => .inl ht, by simp [hidle], by simp [hidle]⟩
  | start w head srst started hidle op notx irqEn eq =>
    obtain ⟨rest, hrest⟩ := List.head?_eq_some_iff.mp head
    have ht : t.seq = .compute := by rw [eq]; rfl
    exact ⟨fun _ => .inr ⟨ht, w, rest, hrest, started, srst⟩, by simp [hidle], by simp [hidle]⟩
  | statusWrite w _ eq =>
    have ht : t.seq = s.seq := by rw [eq]; rfl
    exact ⟨fun hs => .inl (ht.trans hs), fun hs => .inl (ht.trans hs), fun hs => .inl (ht.trans hs)⟩
  | answer head hw err draws eq =>
    have ht : t.seq = .idle := by rw [eq]; rfl
    refine ⟨by simp [hw], by simp [hw], fun _ => .inr ⟨ht, ?_⟩⟩
    rcases head with hnil | ⟨ans, hans⟩
    · exact .inl hnil
    · rcases ans.eq_ok_or_eq_fail with rfl | rfl
      · exact .inr (.inl hans)
      · exact .inr (.inr (.inl hans))
  | failedCheck head hrun err eq => exact ⟨by simp [hrun], fun _ => .inr (.inl head), by simp [hrun]⟩
  | build head hrun => exact ⟨by simp [hrun], fun _ => .inr (.inl head), by simp [hrun]⟩
  | unrelated same _ =>
    exact ⟨fun hs => .inl (same.seq.trans hs), fun hs => .inl (same.seq.trans hs),
      fun hs => .inl (same.seq.trans hs)⟩

/-- A step but a hardware reset keeps every byte of TXBUF, or is the end of a build in COMPUTE, which keeps the bytes
past BYTELEN. -/
theorem txbufByte_of_step {s t : State} (h : step s = .next t) (hreset : s.inputs.head? ≠ some .hardwareReset) :
    t.txbufByte = s.txbufByte ∨
    (s.seq = .compute ∧ t.seq ≠ .compute ∧ ∀ j, t.results.byteLen.toNat ≤ j → t.txbufByte j = s.txbufByte j) := by
  cases step_effect h with
  | hardwareReset head => exact absurd head hreset
  | softReset w _ _ _ eq => exact .inl (by rw [eq]; rfl)
  | start w _ _ _ _ op notx irqEn eq => exact .inl (by rw [eq]; rfl)
  | statusWrite w _ eq => exact .inl (State.sameWork_of_statusWrite eq).txbufByte
  | answer _ _ err draws eq => exact .inl (by rw [eq]; rfl)
  | failedCheck _ _ err eq => exact .inl (by rw [eq]; rfl)
  | build _ hrun sn _ _ bytes r hr eq =>
    subst eq
    refine .inr ⟨hrun, finish_seq_ne_compute _ _, fun j hj => ?_⟩
    rw [finish_results] at hj
    have hbuf : (finish sn.notx (commit bytes r s.turnTaken)).txbuf = s.txbuf.writeBytes 0 bytes := finish_txbuf _ _
    exact txbufByte_past hbuf (finish_epoch _ _) j (hr.byteLen ▸ hj)
  | unrelated same _ => exact .inl same.txbufByte

/-- Settles O56: only the end of a build changes a byte, it leaves COMPUTE, and it keeps the bytes past BYTELEN. -/
theorem onlyTheComputeStepWritesTxbuf : Obligations.OnlyTheComputeStepWritesTxbuf := by
  intro s t h hreset
  rcases txbufByte_of_step h hreset with hsame | ⟨hrun, hleft, hpast⟩
  · exact ⟨fun _ => congrFun hsame, fun _ => congrFun hsame, fun j _ => congrFun hsame j⟩
  · exact ⟨fun hs => absurd hrun hs, fun hs => absurd (hs.trans hrun) hleft, hpast⟩

theorem finish_ovr (notx : Bool) (s : State) : (finish notx s).status.ovr = s.status.ovr := by
  cases notx <;> rfl

/-- Settles O57: of the effects of a step, only the two resets and a STATUS write can clear OVR. -/
theorem overrunIsSticky : Obligations.OverrunIsSticky := by
  intro s t h hovr
  cases step_effect h with
  | hardwareReset head => exact .inr (.inl head)
  | softReset w head srst hidle =>
    obtain ⟨rest, hrest⟩ := List.head?_eq_some_iff.mp head
    exact .inr (.inr ⟨w, rest, .inr ⟨hrest, srst, hidle⟩⟩)
  | start w _ _ _ _ op notx irqEn eq => exact .inl (by rw [eq]; exact hovr)
  | statusWrite w head eq =>
    obtain ⟨rest, hrest⟩ := List.head?_eq_some_iff.mp head
    cases hclr : w.getLsbD 2
    · exact .inl (by rw [eq, State.setStatus_status, hovr, hclr]; rfl)
    · exact .inr (.inr ⟨w, rest, .inl ⟨hrest, hclr⟩⟩)
  | answer _ _ err draws eq => exact .inl (by rw [eq]; exact hovr)
  | failedCheck _ _ err eq => exact .inl (by rw [eq]; exact hovr)
  | build _ _ sn _ _ bytes r _ eq => exact .inl (by rw [eq, finish_ovr]; exact hovr)
  | unrelated _ ovr => exact .inl (ovr hovr)

/-- The enabled sequencer's turn for OP = 0b01 (R225). -/
theorem sequencerTurn_fan {s : State} {sn : Snapshot} (h : s.Enabled sn) (hop : sn.op = 0b01#2) :
    sequencerTurn s =
      .next (fanCompute (fanEncode (addrString sn.fanCmd.addrLen sn.fanCmd.addr) sn.fanCmd.action) s) := by
  obtain ⟨hseq, hsnap⟩ := h
  simp [sequencerTurn, hseq, hsnap, hop, exec_fanInstr]

/-- The enabled sequencer's turn for OP = 0b10 (R226). -/
theorem sequencerTurn_mat {s : State} {sn : Snapshot} (h : s.Enabled sn) (hop : sn.op = 0b10#2) :
    sequencerTurn s = .next (matCompute s) := by
  obtain ⟨hseq, hsnap⟩ := h
  simp [sequencerTurn, hseq, hsnap, hop]

/-- The enabled sequencer's turn for a reserved OP (R227). -/
theorem sequencerTurn_reserved {s : State} {sn : Snapshot} (h : s.Enabled sn) (hfan : sn.op ≠ 0b01#2)
    (hmat : sn.op ≠ 0b10#2) : sequencerTurn s = .next (complete .illegalOp s) := by
  obtain ⟨hseq, hsnap⟩ := h
  simp [sequencerTurn, hseq, hsnap, hfan, hmat, reservedCompute]

/-- `s` with other values in CTRL and the command registers. -/
def State.withLive (s : State) (c : Ctrl) (f : FanCmd) (fr : BitVec 8) (m : MatCmd) (mr z : BitVec 8) : State :=
  { s with ctrl := c, fanCmd := f, fanReps := fr, matCmd := m, matReps := mr, zoneMask := z }

section
variable (s : State) (c : Ctrl) (f : FanCmd) (fr : BitVec 8) (m : MatCmd) (mr z : BitVec 8)

theorem complete_withLive (e : ErrCode) :
    complete e (s.withLive c f fr m mr z) = (complete e s).withLive c f fr m mr z := rfl

theorem finish_build_withLive (notx : Bool) (bits : BitString) (n : Nat) (syms : BitString) (freq : BitVec 32)
    (rate : BitVec 16) (modn : BitVec 2) :
    finish notx (build bits n syms freq rate modn (s.withLive c f fr m mr z)) =
      (finish notx (build bits n syms freq rate modn s)).withLive c f fr m mr z := by
  cases notx <;> rfl

theorem fanCompute_withLive (field : Option BitString) :
    fanCompute field (s.withLive c f fr m mr z) = (fanCompute field s).withLive c f fr m mr z := by
  have hseq : (s.withLive c f fr m mr z).seq = s.seq := rfl
  have hsnap : (s.withLive c f fr m mr z).snap = s.snap := rfl
  simp only [fanCompute, hseq, hsnap]
  split
  · split
    · split
      · exact complete_withLive ..
      · cases field
        · exact complete_withLive ..
        · exact finish_build_withLive ..
    · rfl
  · rfl

theorem matCompute_withLive :
    matCompute (s.withLive c f fr m mr z) = (matCompute s).withLive c f fr m mr z := by
  have hseq : (s.withLive c f fr m mr z).seq = s.seq := rfl
  have hsnap : (s.withLive c f fr m mr z).snap = s.snap := rfl
  simp only [matCompute, hseq, hsnap]
  split
  · split
    · split
      · exact complete_withLive ..
      · split
        · exact finish_build_withLive ..
        · exact complete_withLive ..
    · rfl
  · rfl

/-- The compute step does the same whatever the live registers hold, and keeps them. -/
theorem sequencerTurn_withLive {t : State} (h : sequencerTurn s = .next t) :
    sequencerTurn (s.withLive c f fr m mr z) = .next (t.withLive c f fr m mr z) := by
  by_cases hon : ∃ sn, s.Enabled sn
  · obtain ⟨sn, hon⟩ := hon
    have hlive : (s.withLive c f fr m mr z).Enabled sn := hon
    by_cases hfan : sn.op = 0b01#2
    · rw [sequencerTurn_fan hon hfan] at h
      cases h
      rw [sequencerTurn_fan hlive hfan, fanCompute_withLive]
    · by_cases hmat : sn.op = 0b10#2
      · rw [sequencerTurn_mat hon hmat] at h
        cases h
        rw [sequencerTurn_mat hlive hmat, matCompute_withLive]
      · rw [sequencerTurn_reserved hon hfan hmat] at h
        cases h
        rw [sequencerTurn_reserved hlive hfan hmat, complete_withLive]
  · have hoff : ∀ sn, s.seq = .compute → s.snap ≠ some sn := fun sn hseq hsnap => hon ⟨sn, hseq, hsnap⟩
    rw [sequencerTurn_other hoff] at h
    cases h
    exact sequencerTurn_other (s := s.withLive c f fr m mr z) hoff

end

/-- Settles O59: the compute step commutes with any change of the live registers. -/
theorem computeStepReadsOnlyTheSnapshot : Obligations.ComputeStepReadsOnlyTheSnapshot := by
  intro s t rest c f fr m mr z hi h
  rw [step_turn hi] at h
  refine (step_turn (s := s.withLive c f fr m mr z) hi).trans ?_
  exact sequencerTurn_withLive (s.setInputs rest) c f fr m mr z h

/-- The low byte of a word, read back as a word, is the word without its upper bits. -/
theorem setWidth_lowByte (w : Word) : (lowByte w).setWidth 32 = w &&& 0xFF#32 := by
  ext i hi
  interval_cases i <;> simp [lowByte]

theorem getElem_bitWord (b : Bool) (i : Nat) (h : i < 32) : (bitWord b)[i] = (decide (i = 0) && b) := by
  cases b <;> simp [bitWord]

/-- FAN_CMD's fields stand at the bits a read returns them at (R25). -/
theorem FanCmd.toWord_ofWord (w : Word) : (FanCmd.ofWord w).toWord = w &&& 0xF9F#32 := by
  ext i hi
  interval_cases i <;> simp [FanCmd.ofWord, FanCmd.toWord, fanWord, getElem_bitWord]

/-- MAT_CMD's fields stand at the bits a read returns them at (R27). -/
theorem MatCmd.toWord_ofWord (w : Word) : (MatCmd.ofWord w).toWord = w &&& 0x7F71F#32 := by
  ext i hi
  interval_cases i <;> simp [MatCmd.ofWord, MatCmd.toWord, getElem_bitWord]

/-- Settles O37: each register's fields are stored and read at the same bits. -/
theorem commandReadbackDropsReservedBits : Obligations.CommandReadbackDropsReservedBits :=
  fun _ w => ⟨FanCmd.toWord_ofWord w, setWidth_lowByte w, MatCmd.toWord_ofWord w, setWidth_lowByte w,
    setWidth_lowByte w⟩

end Sys2Proof.Machine
end

section
/-! PROOFS. The host port (R60 to R71): bus errors, reads, reserved offsets, and the words of the TXBUF window. -/

namespace Sys2Proof.Machine

theorem portFault_legal {offset : Nat} (halign : offset % 4 = 0) (hle : offset ≤ 0x1FFF) :
    portFault 32 offset = none :=
  (portFault_none_iff 32 offset).mpr ⟨rfl, halign, hle⟩

theorem portFault_illegal {width offset : Nat} (h : width ≠ 32 ∨ offset % 4 ≠ 0 ∨ 0x1FFF < offset) :
    portFault width offset = some (.busError offset) :=
  if_neg (by omega)

/-- Settles O28: the port finds the fault before it looks at what the access does. -/
theorem illegalAccessIsABusError : Obligations.IllegalAccessIsABusError := by
  intro s rest width offset w hillegal
  have hfault := portFault_illegal hillegal
  constructor <;> intro hi <;> simp [step_turn hi, takeTurn, hostTurn, hfault]

section
variable {s : State} {rest : List Turn} {offset : Nat}

theorem step_legalRead (hi : s.inputs = .host (.read 32 offset) :: rest) (halign : offset % 4 = 0)
    (hle : offset ≤ 0x1FFF) : step s = .next (readPort offset (s.setInputs rest)) := by
  simp [step_turn hi, takeTurn, hostTurn, portFault_legal halign hle]

/-- A legal write past STATUS is no instruction: it is a register write (R220). -/
theorem step_legalWrite {w : Word} (hi : s.inputs = .host (.write 32 offset w) :: rest) (halign : offset % 4 = 0)
    (hle : offset ≤ 0x1FFF) (hctrl : offset ≠ ctrlOffset) (hstatus : offset ≠ statusOffset) :
    step s = .next (writeReg offset w (s.setInputs rest)) := by
  simp [step_turn hi, takeTurn, hostTurn, portFault_legal halign hle, decodePort, hctrl, hstatus]

end

/-- The reads whose value R71 leaves open. -/
theorem State.readIsFree_iff (s : State) (offset : Nat) :
    s.readIsFree offset = true ↔
      s.seq ≠ .idle ∧ ((0x20 ≤ offset ∧ offset ≤ 0x38) ∨ (0x1000 ≤ offset ∧ offset ≤ 0x1FFF)) := by
  simp [State.readIsFree, State.busy, isResultOffset, isWindowOffset]

/-- A read of a specified value records the stored word alone (R68). -/
theorem readPort_specified {s : State} {offset : Nat} (h : ¬ s.readIsFree offset = true) :
    readPort offset s = { s with history := s.history ++ [.readData offset (s.storedWord offset)] } := by
  rw [readPort_eq, if_neg h, if_neg h]

/-- A read of an unspecified value records a draw and advances the counter (R71). -/
theorem readPort_free {s : State} {offset : Nat} (h : s.readIsFree offset = true) :
    readPort offset s = { s with
      history := s.history ++ [.readData offset (Config.freeRead s.draws)], draws := s.draws + 1 } := by
  rw [readPort_eq, if_pos h, if_pos h]

/-- Settles O32: the offsets of the statement are those whose value is specified. -/
theorem readReturnsTheStoredWord : Obligations.ReadReturnsTheStoredWord := by
  intro s rest offset hi halign hle hspec
  have hfixed : ¬ (s.setInputs rest).readIsFree offset = true := by
    rw [State.readIsFree_iff]
    rintro ⟨hbusy, hoffset⟩
    rcases hspec with hidle | hrange
    · exact hbusy hidle
    · omega
  rw [step_legalRead hi halign hle, readPort_specified hfixed]
  rfl

/-- Settles O33: the offsets of the statement are those whose value a busy read draws. -/
theorem busyReadIsDrawnFreshly : Obligations.BusyReadIsDrawnFreshly := by
  intro s rest offset hi halign hbusy hoffset
  have hfree : (s.setInputs rest).readIsFree offset = true := (State.readIsFree_iff _ _).mpr ⟨hbusy, hoffset⟩
  rw [step_legalRead hi halign (by omega), readPort_free hfree]
  rfl

/-- The offsets no register and no window byte stands at (R64). -/
def IsReservedOffset (offset : Nat) : Prop := offset = 0x1C ∨ offset = 0x3C ∨ (0x40 ≤ offset ∧ offset ≤ 0xFFF)

section
variable {offset : Nat} (h : IsReservedOffset offset)
include h

theorem storedWord_reserved (s : State) : s.storedWord offset = 0#32 := by
  unfold IsReservedOffset at h
  have hwindow : ¬ isWindowOffset offset = true := by simp only [isWindowOffset, decide_eq_true_eq]; omega
  unfold State.storedWord
  rw [if_neg hwindow]
  split
  case h_15 => rfl
  all_goals omega

theorem writeReg_reserved (w : Word) (s : State) : writeReg offset w s = s := by
  unfold IsReservedOffset at h
  rcases writeReg_cases offset w s with ⟨e, -⟩ | ⟨e, -⟩ | ⟨e, -⟩ | ⟨e, -⟩ | ⟨e, -⟩ | hsame
  case inr.inr.inr.inr.inr => exact hsame
  all_goals omega

theorem readIsFree_reserved (s : State) : ¬ s.readIsFree offset = true := by
  unfold IsReservedOffset at h
  rw [State.readIsFree_iff]
  omega

end

/-- Settles O36: no result register and no window byte is at the offset, and no command register. -/
theorem reservedOffsetReadsZero : Obligations.ReservedOffsetReadsZero := by
  intro s rest offset w hres halign
  have hrange : 0x1C ≤ offset ∧ offset ≤ 0x1FFF := by omega
  constructor <;> intro hi
  · rw [step_legalRead hi halign hrange.2, readPort_specified (readIsFree_reserved hres _), storedWord_reserved hres]
    rfl
  · rw [step_legalWrite hi halign hrange.2 (by rw [ctrlOffset]; omega) (by rw [statusOffset]; omega),
      writeReg_reserved hres]
    rfl

/-- A word of the window is its four bytes side by side, the last one at the top (R66). -/
theorem State.windowWord_eq_append (s : State) (k : Nat) :
    s.windowWord k =
      (s.txbufByte (4 * k + 3) ++ s.txbufByte (4 * k + 2) ++ s.txbufByte (4 * k + 1) ++ s.txbufByte (4 * k)).cast
        rfl := by
  ext i hi
  simp only [State.windowWord, BitVec.getElem_cast, BitVec.getElem_append]
  interval_cases i <;> simp

theorem State.storedWord_window (s : State) {k : Nat} (hk : k < 1024) :
    s.storedWord (0x1000 + 4 * k) = s.windowWord k := by
  have hwindow : isWindowOffset (0x1000 + 4 * k) = true := by simp only [isWindowOffset, decide_eq_true_eq]; omega
  unfold State.storedWord
  rw [if_pos hwindow, show (0x1000 + 4 * k - 0x1000) / 4 = k by omega]

/-- Appending below is a shift by the width and a sum. -/
theorem toNat_append_byte {n : Nat} (x : BitVec n) (b : Byte) : (x ++ b).toNat = x.toNat * 2 ^ 8 + b.toNat := by
  rw [BitVec.toNat_append, ← Nat.shiftLeft_add_eq_or_of_lt b.isLt, Nat.shiftLeft_eq]

/-- Settles O35: the value of four bytes side by side. -/
theorem windowWordIsLittleEndian : Obligations.WindowWordIsLittleEndian := by
  intro s k hk
  rw [s.storedWord_window hk, s.windowWord_eq_append]
  simp only [BitVec.toNat_cast, toNat_append_byte]
  omega

/-- Bit `r` of byte `j` of a window word. -/
theorem State.getLsbD_windowWord (s : State) (k : Nat) {j r : Nat} (hj : j < 4) (hr : r < 8) :
    (s.windowWord k).getLsbD (8 * j + r) = (s.txbufByte (4 * k + j)).getLsbD r := by
  rw [s.windowWord_eq_append]
  simp only [BitVec.getLsbD_cast, BitVec.getLsbD_append]
  interval_cases j <;> simp +arith [hr]

/-- The eight bits a byte is packed from, a missing one 0 (R120). -/
def octet (bits : BitString) : BitString := (List.range 8).map fun k => bits.getD k false

theorem length_octet (bits : BitString) : (octet bits).length = 8 := by simp [octet]

theorem packByte_eq_ofNat_val (bits : BitString) : packByte bits = BitVec.ofNat 8 (val (octet bits)) :=
  congrArg (BitVec.ofNat 8) (by simp [octet, val, List.range_succ]; omega)

/-- A packed byte reads back as the bits it was packed from (R124). -/
theorem byteBits_packByte (bits : BitString) : byteBits (packByte bits) = octet bits := by
  have hlt := val_lt (octet bits)
  rw [length_octet] at hlt
  rw [byteBits, packByte_eq_ofNat_val, BitVec.toNat_ofNat, Nat.mod_eq_of_lt hlt]
  simpa only [length_octet] using bin_val (octet bits)

theorem getElem_byteBits (b : Byte) {r : Nat} (hr : r < (byteBits b).length) : (byteBits b)[r] = b.getLsbD (7 - r) := by
  simp [byteBits, bin, BitVec.getLsbD]

theorem getLsbD_packByte (bits : BitString) {r : Nat} (hr : r < 8) :
    (packByte bits).getLsbD (7 - r) = bits.getD r false := by
  have hlen : r < (byteBits (packByte bits)).length := by rwa [byteBits, length_bin]
  rw [← getElem_byteBits _ hlen]
  simp only [byteBits_packByte, octet, List.getElem_map, List.getElem_range]

/-- Byte `j` is packed from the string without its first `8j` bits (R120). -/
theorem getElem_packBytes {m j : Nat} (bits : BitString) (hj : j < (packBytes m bits).length) :
    (packBytes m bits)[j] = packByte (bits.drop (8 * j)) := by
  induction m generalizing bits j with
  | zero => simp at hj
  | succ m ih =>
    cases j with
    | zero => rfl
    | succ j =>
      simp only [packBytes, List.getElem_cons_succ, ih, List.drop_drop]
      congr 2
      omega

/-- Symbol i is bit 7 − i mod 8 of byte i div 8 (R67). -/
theorem getLsbD_getElem_pack {bits : BitString} {i : Nat} (h : i < bits.length) (hbyte : i / 8 < (pack bits).length) :
    ((pack bits)[i / 8]).getLsbD (7 - i % 8) = bits[i] := by
  have hi : 8 * (i / 8) + i % 8 = i := Nat.div_add_mod i 8
  simp only [pack, getElem_packBytes, getLsbD_packByte _ (Nat.mod_lt i (by decide : 8 > 0))]
  simp [List.getD_eq_getElem?_getD, List.getElem?_drop, hi, h]

/-- Settles O40: byte i div 8 is byte (i div 8) mod 4 of word i div 32. -/
theorem symbolIsItsBitOfItsByte : Obligations.SymbolIsItsBitOfItsByte := by
  intro bits i h
  have hbyte : i / 8 < (pack bits).length := by rw [length_pack]; omega
  have hsymbol := getLsbD_getElem_pack h hbyte
  refine ⟨by rw [List.getElem?_eq_getElem hbyte, Option.map_some, hsymbol], fun s hfits hheld => ?_⟩
  calc (s.storedWord (0x1000 + 4 * (i / 32))).getLsbD (8 * (i / 8 % 4) + (7 - i % 8))
      = (s.windowWord (i / 32)).getLsbD (8 * (i / 8 % 4) + (7 - i % 8)) := by rw [s.storedWord_window (by omega)]
    _ = (s.txbufByte (4 * (i / 32) + i / 8 % 4)).getLsbD (7 - i % 8) :=
      s.getLsbD_windowWord (i / 32) (Nat.mod_lt _ (by decide)) (by omega)
    _ = (s.txbufByte (i / 8)).getLsbD (7 - i % 8) := by rw [show 4 * (i / 32) + i / 8 % 4 = i / 8 by omega]
    _ = bits[i] := by rw [hheld (i / 8) hbyte, hsymbol]

end Sys2Proof.Machine
end

section
/-! PROOFS. Decode and encode agree (R81 to R84, R91 to R93): each format's row, told by the fields of its word. -/

namespace Sys2Proof.Machine

section
variable (srst start : Bool) (op : BitVec 2) (notx irqEn : Bool)

theorem ctrlWord_start_field : (ctrlWord srst start op notx irqEn).getLsbD 0 = start := by
  simp [ctrlWord, getElem_bitWord]

theorem ctrlWord_op_field : ctrlOpOf (ctrlWord srst start op notx irqEn) = op := by
  ext i hi
  interval_cases i <;> simp [ctrlOpOf, ctrlWord, getElem_bitWord]

theorem ctrlWord_notx_field : (ctrlWord srst start op notx irqEn).getLsbD 3 = notx := by
  simp [ctrlWord, getElem_bitWord]

theorem ctrlWord_irqEn_field : (ctrlWord srst start op notx irqEn).getLsbD 4 = irqEn := by
  simp [ctrlWord, getElem_bitWord]

theorem ctrlWord_srst_field : (ctrlWord srst start op notx irqEn).getLsbD 31 = srst := by
  simp [ctrlWord, getElem_bitWord]

end

/-- SRST comes first, whatever START and OP are (R92). -/
theorem decode_ctrl_srst {w : Word} (hsrst : w.getLsbD 31 = true) :
    decode .ctrlCmd w = .srst (ctrlOpOf w) (w.getLsbD 3) (w.getLsbD 4) := by
  simp only [decode, decodeCtrl, hsrst, if_true]

/-- A word without a request is the plain write (R222). -/
theorem decode_ctrl_plain {w : Word} (hsrst : w.getLsbD 31 = false) (hstart : w.getLsbD 0 = false) :
    decode .ctrlCmd w = .ctrlWrite (ctrlOpOf w) (w.getLsbD 3) (w.getLsbD 4) := by
  simp only [decode, decodeCtrl, hsrst, hstart, Bool.false_eq_true, if_false]

theorem mem_startRows {i : Instr} {op : BitVec 2} {notx irqEn : Bool} : (i, op) ∈ startRows notx irqEn ↔
    i = .fanSend notx irqEn ∧ op = 0b01#2 ∨ i = .matSend notx irqEn ∧ op = 0b10#2 ∨
    i = .reservedOp0 notx irqEn ∧ op = 0b00#2 ∨ i = .reservedOp3 notx irqEn ∧ op = 0b11#2 := by
  simp [startRows]

/-- A START word is the row of its OP (R82). -/
theorem decode_ctrl_start {w : Word} (hsrst : w.getLsbD 31 = false) (hstart : w.getLsbD 0 = true) :
    (decode .ctrlCmd w, ctrlOpOf w) ∈ startRows (w.getLsbD 3) (w.getLsbD 4) := by
  have four : ∀ op : BitVec 2, op = 0b00#2 ∨ op = 0b01#2 ∨ op = 0b10#2 ∨ op = 0b11#2 := by decide
  simp only [decode, decodeCtrl, hsrst, hstart, Bool.false_eq_true, if_false, if_true]
  rcases four (ctrlOpOf w) with hop | hop | hop | hop <;> simp [mem_startRows, hop]

theorem decode_ctrlWord_srst (op : BitVec 2) (notx irqEn : Bool) :
    decode .ctrlCmd (ctrlWord true false op notx irqEn) = .srst op notx irqEn := by
  rw [decode_ctrl_srst (ctrlWord_srst_field ..), ctrlWord_op_field, ctrlWord_notx_field, ctrlWord_irqEn_field]

theorem decode_ctrlWord_plain (op : BitVec 2) (notx irqEn : Bool) :
    decode .ctrlCmd (ctrlWord false false op notx irqEn) = .ctrlWrite op notx irqEn := by
  rw [decode_ctrl_plain (ctrlWord_srst_field ..) (ctrlWord_start_field ..), ctrlWord_op_field, ctrlWord_notx_field,
    ctrlWord_irqEn_field]

section
variable {i : Instr} {op : BitVec 2} {notx irqEn : Bool} (h : (i, op) ∈ startRows notx irqEn)
include h

/-- The OP tells the row. -/
theorem startRows_eq {j : Instr} (hj : (j, op) ∈ startRows notx irqEn) : j = i := by
  rcases mem_startRows.mp h with ⟨rfl, rfl⟩ | ⟨rfl, rfl⟩ | ⟨rfl, rfl⟩ | ⟨rfl, rfl⟩ <;> simpa [mem_startRows] using hj

theorem startRows_legal : i.wellFormed = true ∧ i.format = .ctrlCmd ∧ encode i = ctrlWord false true op notx irqEn := by
  rcases mem_startRows.mp h with ⟨rfl, rfl⟩ | ⟨rfl, rfl⟩ | ⟨rfl, rfl⟩ | ⟨rfl, rfl⟩ <;> exact ⟨rfl, rfl, rfl⟩

theorem decode_ctrlWord_start : decode .ctrlCmd (ctrlWord false true op notx irqEn) = i := by
  have hrow := decode_ctrl_start (ctrlWord_srst_field false true op notx irqEn) (ctrlWord_start_field ..)
  simp only [ctrlWord_op_field, ctrlWord_notx_field, ctrlWord_irqEn_field] at hrow
  exact startRows_eq h hrow

end

/-- The fan command row an ACTION numbers, or the reserved one past the last (R84). -/
def fanRow (action : BitVec 4) (len : Bool) (addr : BitVec 5) : Instr :=
  ((fanRows len addr).map Prod.fst).getD action.toNat (.fanSendReservedAction action len addr)

section
variable (action : BitVec 4) (len : Bool) (addr : BitVec 5)

theorem length_fanRows : (fanRows len addr).length = 12 := rfl

theorem fanRow_action {k : Nat} (hk : k < (fanRows len addr).length) (haction : action.toNat = k) :
    fanRow action len addr = (fanRows len addr)[k].1 := by
  simp [fanRow, haction, hk]

theorem fanRow_reserved (h : 12 ≤ action.toNat) : fanRow action len addr = .fanSendReservedAction action len addr := by
  simp [fanRow, length_fanRows, h]

theorem fanRow_legal : (fanRow action len addr).wellFormed = true ∧ (fanRow action len addr).format = .fanCmd ∧
    encode (fanRow action len addr) = fanWord action len addr := by
  obtain ⟨k, hk⟩ := action
  interval_cases k <;> exact ⟨rfl, rfl, rfl⟩

end

/-- The decoder's chain of comparisons selects the row by its number (R83). -/
theorem decode_fan (w : Word) :
    decode .fanCmd w = fanRow (w.extractLsb' 8 4) (w.getLsbD 7) (w.extractLsb' 0 5) := by
  unfold decode decodeFan
  generalize w.extractLsb' 8 4 = action
  obtain ⟨k, hk⟩ := action
  interval_cases k <;> rfl

theorem decode_fanWord (action : BitVec 4) (len : Bool) (addr : BitVec 5) :
    decode .fanCmd (fanWord action len addr) = fanRow action len addr := by
  simp only [decode_fan, fanWord_action_field, fanWord_len_field, fanWord_addr_field]

/-- Settles O1: the fields of an encoded word read back as the operands, and tell the row. -/
theorem decodeOfEncodeIsTheInstruction : Obligations.DecodeOfEncodeIsTheInstruction := by
  intro i hwf
  cases i with
  | ctrlWrite op notx irqEn => exact decode_ctrlWord_plain op notx irqEn
  | srst op notx irqEn => exact decode_ctrlWord_srst op notx irqEn
  | fanSend notx irqEn => exact decode_ctrlWord_start (op := 0b01#2) (by simp [mem_startRows])
  | matSend notx irqEn => exact decode_ctrlWord_start (op := 0b10#2) (by simp [mem_startRows])
  | reservedOp0 notx irqEn => exact decode_ctrlWord_start (op := 0b00#2) (by simp [mem_startRows])
  | reservedOp3 notx irqEn => exact decode_ctrlWord_start (op := 0b11#2) (by simp [mem_startRows])
  | statusW1c doneClr ovrClr => revert doneClr ovrClr; decide
  | fanSendReservedAction action len addr =>
    have hreserved : 12 ≤ action.toNat := by simpa [Instr.wellFormed] using hwf
    exact (decode_fanWord action len addr).trans (fanRow_reserved action len addr hreserved)
  | fanSendOff len addr => exact decode_fanWord 0#4 len addr
  | fanSendSpeed1 len addr => exact decode_fanWord 1#4 len addr
  | fanSendSpeed2 len addr => exact decode_fanWord 2#4 len addr
  | fanSendSpeed3 len addr => exact decode_fanWord 3#4 len addr
  | fanSendSpeed4 len addr => exact decode_fanWord 4#4 len addr
  | fanSendSpeed5 len addr => exact decode_fanWord 5#4 len addr
  | fanSendSpeed6 len addr => exact decode_fanWord 6#4 len addr
  | fanSendReverse len addr => exact decode_fanWord 7#4 len addr
  | fanSendToggleDownlight len addr => exact decode_fanWord 8#4 len addr
  | fanSendToggleUplight len addr => exact decode_fanWord 9#4 len addr
  | fanSendDimDownlight len addr => exact decode_fanWord 10#4 len addr
  | fanSendDimUplight len addr => exact decode_fanWord 11#4 len addr

/-- Settles O6: FAN_CMD's word holds the snapshot's fields, and ACTION numbers the row. -/
theorem snapshotSelectsItsActionRow : Obligations.SnapshotSelectsItsActionRow := by
  intro c
  have hrow : decode .fanCmd c.toWord = fanRow c.action c.addrLen c.addr := decode_fanWord ..
  rw [hrow]
  exact ⟨fun k hk => fanRow_action c.action c.addrLen c.addr hk, fanRow_reserved c.action c.addrLen c.addr⟩

/-- The fields an SRST word keeps are its defined bits but START (R92). -/
theorem ctrlWord_of_srst {w : Word} (hsrst : w.getLsbD 31 = true) :
    ctrlWord true false (ctrlOpOf w) (w.getLsbD 3) (w.getLsbD 4) = w &&& 0x8000001E#32 := by
  ext i hi
  have hbit : w[31] = true := hsrst
  interval_cases i <;> simp [ctrlWord, ctrlOpOf, getElem_bitWord, hbit]

/-- The fields of a word without SRST are its defined bits (R81). -/
theorem ctrlWord_of_not_srst (w : Word) :
    ctrlWord false (w.getLsbD 0) (ctrlOpOf w) (w.getLsbD 3) (w.getLsbD 4) = w &&& 0x1F#32 := by
  ext i hi
  interval_cases i <;> simp [ctrlWord, ctrlOpOf, getElem_bitWord]

/-- A word without the bits its format ignores (R81, R83, R91); with SRST set START is one of them (R92). -/
def definedBits (f : Format) (w : Word) : Word :=
  match f with
  | .ctrlCmd => if w.getLsbD 31 then w &&& 0x8000001E#32 else w &&& 0x1F#32
  | .statusW1c => w &&& 0x6#32
  | .fanCmd => w &&& 0xF9F#32

section
variable (w : Word)

theorem decode_ctrl_legal : (decode .ctrlCmd w).wellFormed = true ∧ (decode .ctrlCmd w).format = .ctrlCmd ∧
    encode (decode .ctrlCmd w) = definedBits .ctrlCmd w := by
  have hfields := ctrlWord_of_not_srst w
  unfold definedBits
  cases hsrst : w.getLsbD 31
  · cases hstart : w.getLsbD 0
    · rw [decode_ctrl_plain hsrst hstart]
      rw [hstart] at hfields
      exact ⟨rfl, rfl, hfields⟩
    · obtain ⟨hwf, hformat, hencode⟩ := startRows_legal (decode_ctrl_start hsrst hstart)
      rw [hstart] at hfields
      exact ⟨hwf, hformat, hencode.trans hfields⟩
  · rw [decode_ctrl_srst hsrst]
    exact ⟨rfl, rfl, ctrlWord_of_srst hsrst⟩

theorem encode_decode_status : encode (decode .statusW1c w) = definedBits .statusW1c w := by
  ext i hi
  interval_cases i <;> simp [decode, decodeStatus, encode, definedBits, getElem_bitWord]

theorem decode_fan_legal : (decode .fanCmd w).wellFormed = true ∧ (decode .fanCmd w).format = .fanCmd ∧
    encode (decode .fanCmd w) = definedBits .fanCmd w := by
  obtain ⟨hwf, hformat, hencode⟩ := fanRow_legal (w.extractLsb' 8 4) (w.getLsbD 7) (w.extractLsb' 0 5)
  rw [decode_fan]
  exact ⟨hwf, hformat, hencode.trans (FanCmd.toWord_ofWord w)⟩

end

/-- Settles O3: the row of each format is legal, and its fields are the word's defined bits. -/
theorem everyWordIsALegalInstruction : Obligations.EveryWordIsALegalInstruction := by
  intro f w
  cases f with
  | ctrlCmd => exact decode_ctrl_legal w
  | statusW1c => exact ⟨rfl, rfl, encode_decode_status w⟩
  | fanCmd => exact decode_fan_legal w

/-- The round trip of O1 starts from any word, since O3 makes its instruction a legal one. -/
theorem decode_definedBits (f : Format) (w : Word) : decode f (definedBits f w) = decode f w := by
  obtain ⟨hwf, hformat, hencode⟩ := everyWordIsALegalInstruction f w
  calc decode f (definedBits f w)
      = decode (decode f w).format (encode (decode f w)) := by rw [hformat, hencode]; rfl
    _ = decode f w := decodeOfEncodeIsTheInstruction _ hwf

theorem decode_eq_of_definedBits_eq {f : Format} {v w : Word} (h : definedBits f v = definedBits f w) :
    decode f v = decode f w := by
  rw [← decode_definedBits f v, h, decode_definedBits]

/-- Settles O2: clearing ignored bits leaves the defined ones, which tell the instruction. -/
theorem ignoredBitsDoNotChangeTheInstruction : Obligations.IgnoredBitsDoNotChangeTheInstruction := by
  intro w
  refine ⟨decode_eq_of_definedBits_eq ?_, decode_eq_of_definedBits_eq ?_, decode_eq_of_definedBits_eq ?_⟩ <;>
    simp [definedBits, BitVec.and_assoc]

/-- Settles O4: the decoder evaluated at the eight words. -/
theorem wordsFromTheSpecDecode : Obligations.WordsFromTheSpecDecode := by
  unfold Obligations.WordsFromTheSpecDecode
  decide

end Sys2Proof.Machine
end

section
/-! PROOFS. A step runs the instruction of its turn (R80, R220, R221, R225). -/

namespace Sys2Proof.Machine

section
variable {s : State} {rest : List Turn}

/-- A legal write at an offset that takes an instruction runs it (R220). -/
theorem step_instrWrite {offset : Nat} {w : Word} {i : Instr} (hi : s.inputs = .host (.write 32 offset w) :: rest)
    (halign : offset % 4 = 0) (hle : offset ≤ 0x1FFF) (hdecode : decodePort offset w = .ok i) :
    step s = exec i (s.setInputs rest) := by
  simp [step_turn hi, takeTurn, hostTurn, portFault_legal halign hle, hdecode]

theorem step_ctrlWrite {w : Word} (hi : s.inputs = .host (.write 32 0x00 w) :: rest) :
    step s = exec (decode .ctrlCmd w) (s.setInputs rest) :=
  step_instrWrite hi rfl (by decide) rfl

theorem step_statusWrite {w : Word} (hi : s.inputs = .host (.write 32 0x04 w) :: rest) :
    step s = exec (decode .statusW1c w) (s.setInputs rest) :=
  step_instrWrite hi rfl (by decide) rfl

end

/-- The enabled sequencer's turn for OP = 0b01 runs the fan command word of the snapshot (R225). -/
theorem sequencerTurn_fanInstr {s : State} {sn : Snapshot} (h : s.Enabled sn) (hop : sn.op = 0b01#2) :
    sequencerTurn s = exec (decode .fanCmd sn.fanCmd.toWord) s := by
  obtain ⟨hseq, hsnap⟩ := h
  simp [sequencerTurn, hseq, hsnap, hop, Snapshot.fanInstr]

/-- Settles O5: the port hands the word to the decoder, and the sequencer's turn is the same given or quiet. -/
theorem stepRunsTheDecodedInstruction : Obligations.StepRunsTheDecodedInstruction := by
  intro s rest
  refine ⟨fun w hi => step_ctrlWrite hi, fun w hi => step_statusWrite hi, fun sn hi hon hop => ?_,
    fun sn hi hon hop => ?_⟩
  · exact (step_turn hi).trans (sequencerTurn_fanInstr (s := s.setInputs rest) hon hop)
  · have hcompute : s.seq ≠ .txWait := by
      obtain ⟨hseq, -⟩ := hon
      simp [hseq]
    rw [step_quiet hi, quietTurn_other hcompute, sequencerTurn_fanInstr hon hop]

/-- Settles O7: SRST is looked at before START, in R221's order. -/
theorem ctrlWriteTakesTheFirstRequest : Obligations.CtrlWriteTakesTheFirstRequest := by
  intro s rest w hi
  rw [step_ctrlWrite hi]
  cases hsrst : w.getLsbD 31
  · cases hstart : w.getLsbD 0
    · exact exec_plain w hsrst hstart _
    · exact exec_start w hsrst hstart _
  · exact exec_srst w hsrst _

end Sys2Proof.Machine
end

section
/-! PROOFS. The packer (R120 to R124): the length, reading back, and the sequential form. -/

namespace Sys2Proof.Machine

/-- Settles O38: the whole-number form of the length is the ceiling. -/
theorem packLengthIsTheCeiling : Obligations.PackLengthIsTheCeiling := by
  intro bits
  have hceil : ⌈(bits.length : ℚ) / 8⌉ = -(-(bits.length : ℤ) / 8) := Rat.ceil_natCast_div_natCast bits.length 8
  rw [hceil, length_pack]
  omega

/-- A byte is packed from the first eight bits, padded with zeros (R120). -/
theorem octet_eq_take_append_zeros (bits : BitString) : octet bits = bits.take 8 ++ zeros (8 - bits.length) := by
  apply List.ext_getElem
  · simp only [length_octet, List.length_append, List.length_take, length_zeros]
    omega
  · intro k hk _
    rw [length_octet] at hk
    by_cases hin : k < bits.length
    · rw [List.getElem_append_left (by rw [List.length_take]; omega)]
      simp [octet, hin]
    · rw [List.getElem_append_right (by rw [List.length_take]; omega)]
      simp [octet, zeros, Nat.le_of_not_lt hin]

theorem zeros_append_zeros (m n : Nat) : zeros m ++ zeros n = zeros (m + n) := List.replicate_append_replicate

theorem unpack_packBytes_succ (m : Nat) (bits : BitString) :
    unpack (packBytes (m + 1) bits) = octet bits ++ unpack (packBytes m (bits.drop 8)) := by
  rw [← byteBits_packByte]
  rfl

/-- Bytes enough for the string read back as the string and its padding (R124). -/
theorem unpack_packBytes (m : Nat) (bits : BitString) (hfits : bits.length ≤ 8 * m) :
    unpack (packBytes m bits) = bits ++ zeros (8 * m - bits.length) := by
  induction m generalizing bits with
  | zero => simp [unpack, packBytes, zeros, List.eq_nil_of_length_eq_zero (Nat.le_zero.mp hfits)]
  | succ m ih =>
    have hrest : (bits.drop 8).length ≤ 8 * m := by rw [List.length_drop]; omega
    rw [unpack_packBytes_succ, octet_eq_take_append_zeros, ih _ hrest, List.length_drop]
    rcases Nat.le_total 8 bits.length with hfull | hpartial
    · rw [Nat.sub_eq_zero_of_le hfull, show zeros 0 = [] from rfl, List.append_nil, ← List.append_assoc,
        List.take_append_drop]
      congr 2
      omega
    · rw [List.take_of_length_le hpartial, List.drop_of_length_le hpartial, List.nil_append, List.append_assoc,
        zeros_append_zeros]
      congr 2
      omega

theorem unpack_pack (bits : BitString) :
    unpack (pack bits) = bits ++ zeros (8 * ((bits.length + 7) / 8) - bits.length) :=
  unpack_packBytes _ bits (by omega)

/-- Settles O39: strings of one length have the same padding, so reading back tells them apart. -/
theorem unpackOfPackIsThePaddedString : Obligations.UnpackOfPackIsThePaddedString := by
  refine ⟨unpack_pack, fun bits other hlen hpack => ?_⟩
  have hpadded := congrArg unpack hpack
  rw [unpack_pack, unpack_pack] at hpadded
  exact List.append_inj_left hpadded hlen

/-- A byte is packed from nothing past the first eight bits (R120). -/
theorem packByte_append {w : BitString} (hw : w.length = 8) (bits : BitString) : packByte (w ++ bits) = packByte w := by
  have hoctet : octet (w ++ bits) = octet w := by
    simp [octet_eq_take_append_zeros, hw, zeros]
  rw [packByte_eq_ofNat_val, hoctet, ← packByte_eq_ofNat_val]

/-- PACK takes a string eight bits at a time (R120). -/
theorem pack_append {w : BitString} (hw : w.length = 8) (bits : BitString) :
    pack (w ++ bits) = packByte w :: pack bits := by
  have hbytes : ((w ++ bits).length + 7) / 8 = (bits.length + 7) / 8 + 1 := by rw [List.length_append]; omega
  rw [pack, hbytes, packBytes, packByte_append hw, List.drop_left' hw, pack]

/-- One partial byte (R120). -/
theorem pack_partial {w : BitString} (hpos : 0 < w.length) (hw : w.length ≤ 8) : pack w = [packByte w] := by
  have hbytes : (w.length + 7) / 8 = 1 := by omega
  rw [pack, hbytes, packBytes, packBytes]

theorem getLsbD_ofNat_toNat (b : Bool) (k : Nat) : (BitVec.ofNat 8 b.toNat).getLsbD k = (decide (k = 0) && b) := by
  cases b <;> simp

/-- Setting the bit of the next symbol packs it behind the symbols before it (R123). -/
theorem packByte_or_shift {w : BitString} (hw : w.length < 8) (b : Bool) :
    packByte w ||| (BitVec.ofNat 8 b.toNat <<< (7 - w.length)) = packByte (w ++ [b]) := by
  apply BitVec.eq_of_getLsbD_eq
  intro i hi
  obtain ⟨r, hr, rfl⟩ : ∃ r < 8, i = 7 - r := ⟨7 - i, by omega, by omega⟩
  rw [BitVec.getLsbD_or, getLsbD_packByte _ hr, getLsbD_packByte _ hr, BitVec.getLsbD_shiftLeft, getLsbD_ofNat_toNat]
  rcases Nat.lt_trichotomy r w.length with hold | rfl | hnext
  · have habove : 7 - r - (7 - w.length) ≠ 0 := by omega
    simp [List.getElem?_append_left hold, habove]
  · simp [hi]
  · have hbelow : 7 - r < 7 - w.length := by omega
    have hpast : (w ++ [b]).length ≤ r := by simpa using hnext
    simp [List.getElem?_eq_none hnext.le, List.getElem?_eq_none hpast, hbelow]

/-- The sequential packer's state once the symbols `w` wait for their byte and `out` is written (R123). -/
def PackState.waiting (out : List Byte) (w : BitString) : PackState :=
  { acc := packByte w, count := w.length, out := out }

theorem PackState.onSymbol_waiting_full (out : List Byte) {w : BitString} {b : Bool} (hw : w.length + 1 = 8) :
    (PackState.waiting out w).onSymbol b = PackState.waiting (out ++ [packByte (w ++ [b])]) [] := by
  simp only [PackState.onSymbol, PackState.waiting, packByte_or_shift (show w.length < 8 by omega), if_pos hw]
  rfl

theorem PackState.onSymbol_waiting_partial (out : List Byte) {w : BitString} {b : Bool} (hw : w.length + 1 < 8) :
    (PackState.waiting out w).onSymbol b = PackState.waiting out (w ++ [b]) := by
  simp only [PackState.onSymbol, PackState.waiting, packByte_or_shift (show w.length < 8 by omega),
    if_neg (show ¬ w.length + 1 = 8 by omega), List.length_append, List.length_singleton]

theorem PackState.atEnd_waiting (out : List Byte) {w : BitString} (hw : w.length < 8) :
    (PackState.waiting out w).atEnd = out ++ pack w := by
  rcases Nat.eq_zero_or_pos w.length with hnone | hsome
  · rw [List.eq_nil_of_length_eq_zero hnone]
    exact (List.append_nil out).symm
  · rw [pack_partial hsome hw.le]
    exact if_pos hsome

/-- From any waiting symbols on, the packer writes PACK of them and the symbols to come. -/
theorem PackState.atEnd_foldl_waiting (bits : BitString) (out : List Byte) {w : BitString} (hw : w.length < 8) :
    (bits.foldl PackState.onSymbol (PackState.waiting out w)).atEnd = out ++ pack (w ++ bits) := by
  induction bits generalizing out w with
  | nil => rw [List.append_nil]; exact PackState.atEnd_waiting out hw
  | cons b bits ih =>
    rw [List.foldl_cons, List.append_cons]
    by_cases hfull : w.length + 1 = 8
    · have hbyte : (w ++ [b]).length = 8 := by simpa using hfull
      rw [PackState.onSymbol_waiting_full out hfull, ih _ (by decide), pack_append hbyte, List.nil_append,
        ← List.append_cons]
    · have hpartial : w.length + 1 < 8 := by omega
      rw [PackState.onSymbol_waiting_partial out hpartial, ih out (by simpa using hpartial)]

/-- Settles O41: at the start no symbol waits and nothing is written. -/
theorem sequentialPackerIsPack : Obligations.SequentialPackerIsPack := fun bits =>
  PackState.atEnd_foldl_waiting bits [] (w := []) (by decide)

end Sys2Proof.Machine
end

section
/-! PROOFS. The fan encoder and what a fan action leaves in the result registers (R130 to R146, R225, R229). -/

namespace Sys2Proof.Machine

/-- Every row of the fan actions is one compute step, told from the others by its code (R133 to R144). -/
theorem exec_fanRow {len : Bool} {addr : BitVec 5} {i : Instr} {code : BitVec 8} (hrow : (i, code) ∈ fanRows len addr)
    (s : State) : exec i s = .next (fanCompute (some (fanField (addrString len addr) code)) s) := by
  rw [fanRows] at hrow
  fin_cases hrow <;> rfl

/-- An enabled fan compute step that passes its checks builds the encoder's field and ends the build (R225, R228). -/
theorem fanCompute_enabled {s : State} {sn : Snapshot} (h : s.Enabled sn) (hop : sn.op = 0b01#2)
    (hreps : sn.fanReps ≠ 0#8) (field : BitString) :
    fanCompute (some field) s =
      finish sn.notx (build field 13 (fanModulate field sn.fanReps.toNat) fanFreq fanRate askOok s) := by
  obtain ⟨hseq, hsnap⟩ := h
  simp [fanCompute, hseq, hsnap, hop, hreps]

/-- The address field as a number: a 4-bit address gets the value 16 of its prefix (R131). -/
theorem val_addrField (len : Bool) (addr : BitVec 5) :
    val (addrField (addrString len addr)) = if len then addr.toNat else 16 + addr.toNat % 16 := by
  cases len with
  | true => simp [addrField, addrString, val_bin, Nat.mod_eq_of_lt addr.isLt]
  | false => simp [addrField, addrString, val_cons, val_bin]

/-- The fan field as a number: the code is its low byte (R130). -/
theorem val_fanField (len : Bool) (addr : BitVec 5) (code : BitVec 8) :
    val (fanField (addrString len addr) code) =
      (if len then addr.toNat else 16 + addr.toNat % 16) * 256 + code.toNat := by
  rw [fanField, val_append, val_addrField, length_bin, val_bin, Nat.mod_eq_of_lt code.isLt]
  rfl

theorem length_fanModulate_field {field : BitString} (hfield : field.length = 13) (reps : Nat) :
    (fanModulate field reps).length = 36 + 75 * reps := by
  rw [length_fanModulate, hfield]
  omega

/-- Settles O16: the action's build fits every register, and ending it keeps the results. -/
theorem fanActionWritesTheResults : Obligations.FanActionWritesTheResults := by
  intro len addr i code s sn hrow hon hop hreps
  refine ⟨_, exec_fanRow hrow s, ?_⟩
  rw [fanCompute_enabled hon hop hreps, finish_results]
  have hfield : (fanField (addrString len addr) code).length = 13 := length_fanField len addr code
  have hval := val_lt (fanField (addrString len addr) code)
  have hsyms := length_fanModulate_field hfield sn.fanReps.toNat
  have hbytes := length_pack (fanModulate (fanField (addrString len addr) code) sn.fanReps.toNat)
  obtain ⟨-, hmax⟩ := reps_bounds hreps
  rw [hfield] at hval
  rw [hsyms] at hbytes
  refine ⟨?_, rfl, ?_, ?_, rfl, rfl, rfl⟩
  · rw [build_field_toNat _ _ _ _ _ _ _ (by omega), val_fanField]
  · rw [build_symLen_toNat _ _ _ _ _ _ _ (by omega), hsyms]
  · rw [build_byteLen_toNat _ _ _ _ _ _ _ (by omega), hbytes]

/-- The bits of the code each action index names, none for 12 to 15 (R132 to R144). -/
def fanCodeBits (action : BitVec 4) : Option BitString := (fanCode action).map fun code => bin 8 code.toNat

/-- The encoder puts the address field before the code's bits, whatever the action (R130). -/
theorem fanEncode_eq_map_fanCodeBits (a : BitString) (action : BitVec 4) :
    fanEncode a action = (fanCodeBits action).map (addrField a ++ ·) := by
  rw [fanCodeBits, Option.map_map]
  rfl

theorem fanCodeBits_table :
    (List.range 16).map (fun k => fanCodeBits (BitVec.ofNat 4 k)) =
      [ some [false, false, false, false, false, true, false, false],
        some [false, false, false, true, false, false, false, false],
        some [false, false, false, true, false, true, false, false],
        some [false, false, true, false, false, false, false, false],
        some [false, false, true, true, false, false, false, false],
        some [false, true, false, false, false, true, false, false],
        some [false, true, false, false, false, false, false, false],
        some [false, false, false, false, true, false, false, false],
        some [false, false, false, false, false, false, true, false],
        some [false, false, false, true, false, false, true, false],
        some [true, false, false, false, false, false, true, false],
        some [true, false, false, true, false, false, true, false],
        none, none, none, none ] := by decide

/-- Settles O15: the table of the codes' bits with the address field before each; the address's length only tells
which field that is. -/
theorem fanFieldOfEveryAction : Obligations.FanFieldOfEveryAction := by
  intro a _
  calc (List.range 16).map (fun k => fanEncode a (BitVec.ofNat 4 k))
      = ((List.range 16).map fun k => fanCodeBits (BitVec.ofNat 4 k)).map (Option.map (addrField a ++ ·)) := by
        simp only [fanEncode_eq_map_fanCodeBits, List.map_map, Function.comp_def]
    _ = _ := by rw [fanCodeBits_table]; rfl

/-- The prefix of a 4-bit address is the leading bit of a 5-bit one (R88, R131). -/
theorem addrField_fourBit (v : BitVec 5) :
    addrField (addrString false v) = addrField (addrString true (0b10000#5 ||| (v &&& 0b01111#5))) := by
  revert v
  decide

/-- Settles O47: the encoder sees an address only through its address field. -/
theorem fourBitAddressIsThePrefixedFiveBitAddress : Obligations.FourBitAddressIsThePrefixedFiveBitAddress := by
  intro v action
  rw [fanEncode_eq_map_fanCodeBits, fanEncode_eq_map_fanCodeBits, addrField_fourBit]

end Sys2Proof.Machine
end

section
/-! PROOFS. The fan modulator (R160 to R163, R167): the stream's length, its symbols and its marks. -/

namespace Sys2Proof.Machine

/-- Settles O42: the packed lengths are the packer's, of the two stream lengths. -/
theorem fanStreamLength : Obligations.FanStreamLength := by
  refine ⟨length_fanModulate, fun field r hfield => ⟨length_fanModulate_field hfield r, ?_⟩, fun addr => ?_⟩
  · rw [packLengthIsTheCeiling, length_fanModulate_field hfield]
    push_cast
    rfl
  · rw [length_pack, fanStream, length_fanModulate_field (length_fanField true addr 0x04#8)]
    rfl

@[simp] theorem popcount_rep (n : Nat) (s : BitString) : popcount (rep n s) = n * popcount s := by
  induction n with
  | zero => simp
  | succ n ih => rw [rep_succ, popcount_append, ih, Nat.succ_mul, Nat.add_comm]

/-- Every group has its mark, and one more where the bit is 1 (R160). -/
@[simp] theorem popcount_mod3 (s : BitString) : popcount (mod3 s) = s.length + popcount s := by
  induction s with
  | nil => rfl
  | cons b s ih => simp only [mod3_cons, popcount_cons, ih, List.length_cons, Bool.toNat_true, Bool.toNat_false]; omega

theorem popcount_fanModulate (field : BitString) (reps : Nat) :
    popcount (fanModulate field reps) = reps * (field.length + popcount field) := by
  simp [fanModulate, fanGuard]

/-- Every copy in a repetition holds the repeated string. -/
theorem getElem?_rep {n r i : Nat} {s : BitString} (hr : r < n) (hi : i < s.length) :
    (rep n s)[s.length * r + i]? = s[i]? := by
  induction n generalizing r with
  | zero => exact absurd hr (Nat.not_lt_zero r)
  | succ n ih =>
    rw [rep_succ]
    cases r with
    | zero => rw [Nat.mul_zero, Nat.zero_add, List.getElem?_append_left hi]
    | succ r =>
      have hpast : s.length * (r + 1) + i = s.length + (s.length * r + i) := by rw [Nat.mul_succ]; omega
      rw [hpast, List.getElem?_append_right (Nat.le_add_right _ _), Nat.add_sub_cancel_left]
      exact ih (Nat.lt_of_succ_lt_succ hr)

/-- The last symbol of a group is the bit itself (R160). -/
theorem getElem?_mod3 (s : BitString) (b : Nat) : (mod3 s)[3 * b + 2]? = s[b]? := by
  induction s generalizing b with
  | nil => rfl
  | cons x s ih =>
    cases b with
    | zero => rfl
    | succ b => exact ih b

/-- Settles O43: copy r's bit b lies past the leading guard, in the mapped field of the repeated block's copy r − 1. -/
theorem fanStreamHoldsTheField : Obligations.FanStreamHoldsTheField := by
  intro field reps hfield
  refine ⟨fun r b hr hreps hb => ?_, by rw [popcount_fanModulate, hfield]⟩
  have hmod : (mod3 field).length = 39 := by rw [length_mod3, hfield]
  have hblock : (mod3 field ++ fanGuard).length = 75 := by rw [List.length_append, hmod, length_fanGuard]
  have hcopy := getElem?_rep (n := reps) (r := r - 1) (i := 3 * b + 2) (s := mod3 field ++ fanGuard)
    (by omega) (by omega)
  rw [hblock] at hcopy
  calc (fanModulate field reps)[36 + 75 * (r - 1) + 3 * b + 2]?
      = (rep reps (mod3 field ++ fanGuard))[75 * (r - 1) + (3 * b + 2)]? := by
        rw [fanModulate, List.getElem?_append_right (by rw [length_fanGuard]; omega), length_fanGuard]
        congr 1; omega
    _ = (mod3 field ++ fanGuard)[3 * b + 2]? := hcopy
    _ = (mod3 field)[3 * b + 2]? := List.getElem?_append_left (by omega)
    _ = field[b]? := getElem?_mod3 field b

end Sys2Proof.Machine
end

section
/-! PROOFS. What a framer emits on its way from one state to another, and the fan framer (R166). -/

namespace Sys2Proof.Machine

/-- From `state` the framer emits the symbols `w` and is then in `after`; none is a framer that has stopped. -/
def Emits {α : Type} (next : α → Bool × Option α) (state : Option α) (w : BitString) (after : Option α) : Prop :=
  ∀ n, framerRun next (w.length + n) state = w ++ framerRun next n after

section
variable {α : Type} {next : α → Bool × Option α}

theorem framerRun_none (n : Nat) : framerRun next n none = [] := by cases n <;> rfl

theorem emits_nil (state : Option α) : Emits next state [] state := fun n => by
  rw [List.length_nil, Nat.zero_add, List.nil_append]

theorem emits_cons {f : α} {s : Bool} {w : BitString} {mid after : Option α} (hstep : next f = (s, mid))
    (hrest : Emits next mid w after) : Emits next (some f) (s :: w) after := fun n => by
  rw [List.length_cons, Nat.add_right_comm, framerRun, hstep, hrest n, List.cons_append]

theorem Emits.append {state mid after : Option α} {v w : BitString} (hv : Emits next state v mid)
    (hw : Emits next mid w after) : Emits next state (v ++ w) after := fun n => by
  rw [List.length_append, Nat.add_assoc, hv, hw, List.append_assoc]

/-- Blocks that each lead to the next one's start are emitted in a row. -/
theorem emits_flatMap_range {state : Nat → Option α} {block : Nat → BitString} {k : Nat}
    (h : ∀ i, i < k → Emits next (state i) (block i) (state (i + 1))) :
    Emits next (state 0) ((List.range k).flatMap block) (state k) := by
  induction k with
  | zero => exact emits_nil _
  | succ k ih =>
    rw [List.range_succ, List.flatMap_append, List.flatMap_singleton]
    exact (ih fun i hi => h i (by omega)).append (h k (Nat.lt_succ_self k))

/-- A state that counts off-symbols up to 36 emits the guard (R161). -/
theorem emits_fanGuard {state : Nat → α} {after : Option α}
    (hmore : ∀ g, g < 35 → next (state g) = (false, some (state (g + 1)))) (hlast : next (state 35) = (false, after)) :
    Emits next (some (state 0)) fanGuard after :=
  (emits_flatMap_range (state := fun g => some (state g)) fun g hg => emits_cons (hmore g hg) (emits_nil _)).append
    (emits_cons hlast (emits_nil _))

/-- A framer that stops has emitted its whole output once it has had the steps for it. -/
theorem Emits.framerRun_eq {state : Option α} {w : BitString} {n : Nat} (h : Emits next state w none)
    (hn : w.length ≤ n) : framerRun next n state = w := by
  obtain ⟨k, rfl⟩ := Nat.exists_eq_add_of_le hn
  rw [h k, framerRun_none, List.append_nil]

end

theorem flatMap_range_const (n : Nat) (s : BitString) : ((List.range n).flatMap fun _ => s) = rep n s := by
  rw [List.flatMap_def, List.map_const', List.length_range, rep]

/-- The mapped field is made of the groups of its bits in turn (R160). -/
theorem flatMap_range_sym (s : BitString) :
    ((List.range s.length).flatMap fun b => sym (s.getD b false)) = mod3 s := by
  have hbits : (List.range s.length).map (fun b => s.getD b false) = s :=
    List.ext_getElem (by simp) fun i _ hi => by simp [hi]
  calc ((List.range s.length).flatMap fun b => sym (s.getD b false))
      = ((List.range s.length).map fun b => s.getD b false).flatMap sym := (List.flatMap_map ..).symm
    _ = mod3 s := by rw [hbits, mod3]

/-- The framer before the group of field bit `b` in copy `r`; once the 13 bits are out, before the copy's guard. -/
def FanFramer.atBit (r b : Nat) : FanFramer :=
  if b = 13 then { phase := .trail, g := 0, b := 13, p := 0, r := r }
  else { phase := .pay, g := 36, b := b, p := 0, r := r }

/-- The framer after `r` copies of the payload, each with its guard. -/
def FanFramer.afterCopies (reps r : Nat) : Option FanFramer :=
  if r = reps then none else some (FanFramer.atBit (r + 1) 0)

section
variable (field : BitString) (reps : Nat)

theorem fanFramer_emits_lead :
    Emits (FanFramer.next field reps) (some .start) fanGuard (some (FanFramer.atBit 1 0)) :=
  emits_fanGuard (state := fun g => { FanFramer.start with g := g })
    (fun g hg => by simp [FanFramer.next, FanFramer.start, hg.ne]) rfl

theorem fanFramer_emits_trail (r : Nat) :
    Emits (FanFramer.next field reps) (some (FanFramer.atBit r 13)) fanGuard (FanFramer.afterCopies reps r) :=
  emits_fanGuard (state := fun g => { FanFramer.atBit r 13 with g := g })
    (fun g hg => by simp [FanFramer.next, FanFramer.atBit, hg.ne]) rfl

theorem fanFramer_emits_group (r : Nat) {b : Nat} (hb : b < 13) :
    Emits (FanFramer.next field reps) (some (FanFramer.atBit r b)) (sym (field.getD b false))
      (some (FanFramer.atBit r (b + 1))) := by
  rw [FanFramer.atBit, if_neg hb.ne]
  refine emits_cons rfl (emits_cons rfl (emits_cons ?_ (emits_nil _)))
  by_cases hlast : b + 1 = 13
  · obtain rfl : b = 12 := by omega
    rfl
  · simp [FanFramer.atBit, FanFramer.next, groupSymbol, hlast]

end

section
variable {field : BitString} (hfield : field.length = 13)
include hfield

theorem fanFramer_emits_copy (reps r : Nat) :
    Emits (FanFramer.next field reps) (some (FanFramer.atBit r 0)) (mod3 field ++ fanGuard)
      (FanFramer.afterCopies reps r) := by
  have hpay := emits_flatMap_range (state := fun b => some (FanFramer.atBit r b)) fun b (hb : b < 13) =>
    fanFramer_emits_group field reps r hb
  rw [← hfield, flatMap_range_sym, hfield] at hpay
  exact hpay.append (fanFramer_emits_trail field reps r)

theorem fanFramer_emits_fanModulate {reps : Nat} (hreps : 1 ≤ reps) :
    Emits (FanFramer.next field reps) (some .start) (fanModulate field reps) none := by
  have hcopies := emits_flatMap_range (state := FanFramer.afterCopies reps) fun r (hr : r < reps) => by
    rw [FanFramer.afterCopies, if_neg hr.ne]
    exact fanFramer_emits_copy hfield reps (r + 1)
  rw [flatMap_range_const, FanFramer.afterCopies, FanFramer.afterCopies, if_neg (by omega), if_pos rfl] at hcopies
  exact (fanFramer_emits_lead field reps).append hcopies

end

/-- Settles O45: the framer stops after emitting the fan stream, which has 36 + 75·R symbols. -/
theorem sequentialFanFramerIsFanModulate : Obligations.SequentialFanFramerIsFanModulate := by
  intro field reps n hfield hreps hn
  exact (fanFramer_emits_fanModulate hfield hreps).framerRun_eq ((length_fanModulate_field hfield reps).trans_le hn)

end Sys2Proof.Machine
end

section
/-! PROOFS. The mattress encoder (R180 to R187): its checksum, and what a mattress build leaves in the result
registers. -/

namespace Sys2Proof.Machine

@[simp] theorem popcount_flagString (b : Bool) : popcount (flagString b) = b.toNat := by
  simp [flagString]

@[simp] theorem val_flagString (b : Bool) : val (flagString b) = b.toNat := by
  simp [flagString, val_cons]

@[simp] theorem val_zeros (n : Nat) : val (zeros n) = 0 := by
  induction n with
  | zero => rfl
  | succ n ih => rw [zeros, List.replicate_succ, val_cons, ← zeros, ih]; simp

/-- A field of the command that fills its string is read back from it (R9, R11). -/
theorem val_bin_toNat {n : Nat} (v : BitVec n) : val (bin n v.toNat) = v.toNat := by
  rw [val_bin, Nat.mod_eq_of_lt v.isLt]

/-- Six bits hold the count of any string shorter than 64 bits (R181). -/
theorem val_checksum {p : BitString} (h : p.length < 2 ^ 6) : val (checksum p) = popcount p := by
  rw [checksum, val_bin, Nat.mod_eq_of_lt ((popcount_le_length p).trans_lt h)]

/-- The count of 1 bits moves by the difference of the bit written and the bit replaced (R186). -/
theorem popcount_set {p : BitString} {i : Nat} (h : i < p.length) (b : Bool) :
    popcount (p.set i b) + p[i].toNat = popcount p + b.toNat := by
  have hcount : popcount (p.set i b) = popcount p - p[i].toNat + b.toNat := by
    simp [popcount, List.count_set h, Bool.toNat, Bool.cond_eq_ite]
  have hheld : p[i].toNat ≤ popcount p := by
    cases hbit : p[i] with
    | false => exact Nat.zero_le _
    | true => exact List.count_pos_iff.mpr (hbit ▸ List.getElem_mem h)
  omega

/-- How many operand bits of a mattress command are 1 (R184). -/
def MatCmd.ones (m : MatCmd) : Nat :=
  popcount (bin 3 m.zone.toNat) + popcount (bin 5 m.code.toNat) + popcount (bin 4 m.heat.toNat)
    + m.stayOn.toNat + m.preheat.toNat + m.on.toNat

/-- The four constant bits of a payload are 0 (R184). -/
theorem popcount_matPayload (m : MatCmd) : popcount (matPayload m) = m.ones := by
  simp only [matPayload, MatCmd.ones, popcount_append, popcount_zeros, popcount_flagString]
  omega

/-- The payload as the sum of its operands at their places (R183). -/
theorem val_matPayload (m : MatCmd) :
    val (matPayload m) = m.zone.toNat * 2 ^ 16 + m.code.toNat * 2 ^ 11 + m.heat.toNat * 2 ^ 4
      + m.stayOn.toNat * 2 ^ 2 + m.preheat.toNat * 2 + m.on.toNat := by
  simp only [matPayload, val_append, val_bin_toNat, val_zeros, val_flagString, length_bin, length_zeros,
    length_flagString]
  omega

/-- The field as a number: the checksum stands above the 19 payload bits (R182, R183). -/
theorem val_matEncode (m : MatCmd) : val (matEncode m) = m.ones * 2 ^ 19 + val (matPayload m) := by
  rw [matEncode, val_append, length_matPayload, val_checksum (by simp), popcount_matPayload]

/-- A count below 16 leaves the two leading bits of its six 0 (R184). -/
theorem bin_six_of_lt {n : Nat} (h : n < 16) : bin 6 n = false :: false :: bin 4 n := by
  rw [bin_succ, bin_succ, Nat.testBit_lt_two_pow (h.trans (by decide)), Nat.testBit_lt_two_pow h]

/-- Settles O48: the count is at most 15, so the checksum is the count and its two leading bits are 0. -/
theorem checksumCountsTheOperandBits : Obligations.ChecksumCountsTheOperandBits := by
  intro m
  have hones := popcount_matPayload m
  have hmax := popcount_matPayload_le m
  have hbits := bin_six_of_lt (Nat.lt_succ_of_le hmax)
  refine ⟨hones, hones.symm.trans_le hmax, (val_checksum (by simp)).trans hones, ?_, ?_⟩
  · rw [checksum, hbits]; rfl
  · rw [checksum, hbits]; rfl

/-- Settles O49: writing a bit moves the count by the difference of the bits, and the checksum is the count. -/
theorem onePayloadBitMovesTheChecksumByOne : Obligations.OnePayloadBitMovesTheChecksumByOne := by
  intro p i hi hlen
  have hchecksum (b : Bool) : val (checksum (p.set i b)) = popcount (p.set i b) := val_checksum (by simp [hlen])
  rw [hchecksum, hchecksum, val_checksum (by omega)]
  refine ⟨fun hbit => ?_, fun hbit => ?_⟩
  · have hset := popcount_set hi true
    rw [hbit] at hset
    exact ⟨hset, hset⟩
  · have hset := popcount_set hi false
    rw [hbit] at hset
    exact ⟨hset, hset⟩

theorem length_matStream (m : MatCmd) (reps : BitVec 8) : (matStream m reps).length = 87 * reps.toNat := by
  rw [matStream, length_matModulate, length_matEncode]
  omega

/-- An enabled mattress compute step that passes its checks builds the encoder's field and ends the build (R226,
R228). -/
theorem matCompute_enabled {s : State} {sn : Snapshot} (h : s.Enabled sn) (hop : sn.op = 0b10#2)
    (hreps : sn.matReps ≠ 0#8) (hzone : sn.zoneAccepted = true) :
    matCompute s =
      finish sn.notx (build (matEncode sn.matCmd) 25 (matStream sn.matCmd sn.matReps) matFreq matRate askOok s) := by
  obtain ⟨hseq, hsnap⟩ := h
  simp [matCompute, hseq, hsnap, hop, hreps, hzone, matStream]

/-- The sequencer's turn with a mattress send that passes its checks (R226, R228). -/
theorem step_matSend {s : State} {sn : Snapshot} {rest : List Turn} (hi : s.inputs = .sequencer :: rest)
    (hon : s.Enabled sn) (hop : sn.op = 0b10#2) (hreps : sn.matReps ≠ 0#8) (hzone : sn.zoneAccepted = true) :
    step s = .next (finish sn.notx (build (matEncode sn.matCmd) 25 (matStream sn.matCmd sn.matReps) matFreq matRate
      askOok (s.setInputs rest))) := by
  have hon' : (s.setInputs rest).Enabled sn := hon
  rw [← matCompute_enabled hon' hop hreps hzone, ← sequencerTurn_mat hon' hop, step_turn hi]
  rfl

/-- Settles O21: the build fits every register, and ending it keeps the results. -/
theorem matSendWritesTheResults : Obligations.MatSendWritesTheResults := by
  intro s sn rest hi hon hop hreps hzone
  refine ⟨_, step_matSend hi hon hop hreps hzone, ?_⟩
  rw [finish_results]
  have hval := val_matEncode_lt sn.matCmd
  have hsyms := length_matStream sn.matCmd sn.matReps
  have hbytes := length_pack (matStream sn.matCmd sn.matReps)
  obtain ⟨-, hmax⟩ := reps_bounds hreps
  rw [hsyms] at hbytes
  refine ⟨?_, rfl, ?_, ?_, rfl, rfl, rfl⟩
  · rw [build_field_toNat _ _ _ _ _ _ _ (by omega), val_matEncode, val_matPayload, MatCmd.ones]
    omega
  · rw [build_symLen_toNat _ _ _ _ _ _ _ (by omega), hsyms]
  · rw [build_byteLen_toNat _ _ _ _ _ _ _ (by omega), hbytes]

end Sys2Proof.Machine
end

section
/-! PROOFS. The mattress modulator (R200 to R209): the stream's length, symbols and marks, what the reversal changes,
and the framer. -/

namespace Sys2Proof.Machine

theorem length_matModulate_field {field : BitString} (hfield : field.length = 25) (reps : Nat) :
    (matModulate field reps).length = 87 * reps := by
  rw [length_matModulate, hfield, Nat.mul_comm]

@[simp] theorem popcount_reverse (s : BitString) : popcount s.reverse = popcount s := List.count_reverse

theorem popcount_matModulate (field : BitString) (reps : Nat) :
    popcount (matModulate field reps) = reps * (6 + field.length + popcount field) := by
  have hpreamble : popcount matPreamble = 6 := rfl
  rw [matModulate, popcount_rep, popcount_append, hpreamble, popcount_mod3, popcount_reverse, List.length_reverse,
    Nat.add_assoc]

/-- Read from its right end, a string gives the bits of its number from bit 0 upward (R11, R89). -/
theorem getElem?_reverse_eq_testBit_val {s : BitString} {k : Nat} (hk : k < s.length) :
    s.reverse[k]? = some ((val s).testBit k) := by
  have hplace : s.length - 1 - (s.length - 1 - k) = k := by omega
  calc s.reverse[k]? = (bin s.length (val s))[s.length - 1 - k]? := by rw [List.getElem?_reverse hk, bin_val]
    _ = some ((val s).testBit k) := by simp [bin, hplace, show s.length - 1 - k < s.length by omega]

/-- Settles O44: the symbol is bit k of the reversed field, in the unit that is the repetition's copy r − 1. -/
theorem matStreamHoldsTheFieldReversed : Obligations.MatStreamHoldsTheFieldReversed := by
  intro field reps hfield
  refine ⟨fun r k hr hreps hk => ?_, length_matModulate_field hfield reps, by rw [popcount_matModulate, hfield]⟩
  have hmod : (mod3 field.reverse).length = 75 := by rw [length_mod3, List.length_reverse, hfield]
  have hunit : (matPreamble ++ mod3 field.reverse).length = 87 := by
    rw [List.length_append, hmod, length_matPreamble]
  have hcopy := getElem?_rep (n := reps) (r := r - 1) (i := 12 + (3 * k + 2))
    (s := matPreamble ++ mod3 field.reverse) (by omega) (by omega)
  rw [hunit] at hcopy
  calc (matModulate field reps)[87 * (r - 1) + 12 + 3 * k + 2]?
      = (matPreamble ++ mod3 field.reverse)[12 + (3 * k + 2)]? := by
        rw [← hcopy, matModulate]
        congr 1; omega
    _ = (mod3 field.reverse)[3 * k + 2]? := by
        rw [List.getElem?_append_right (by rw [length_matPreamble]; omega), length_matPreamble,
          Nat.add_sub_cancel_left]
    _ = field.reverse[k]? := getElem?_mod3 field.reverse k
    _ = some ((val field).testBit k) := getElem?_reverse_eq_testBit_val (by omega)
    _ = some ((BitVec.ofNat 25 (val field)).getLsbD k) := by
        rw [BitVec.getLsbD_ofNat, decide_eq_true hk, Bool.true_and]

/-- A repetition that repeats at all determines what it repeats. -/
theorem rep_injective {n : Nat} (hn : 1 ≤ n) : Function.Injective (rep n) := by
  intro s t h
  have hlen : n * s.length = n * t.length := by rw [← length_rep, h, length_rep]
  obtain ⟨m, rfl⟩ := Nat.exists_eq_add_of_le' hn
  rw [rep_succ, rep_succ] at h
  exact List.append_inj_left h (Nat.eq_of_mul_eq_mul_left hn hlen)

/-- The last symbols of its groups determine the mapped string (R160). -/
theorem mod3_injective : Function.Injective mod3 := fun s t h =>
  List.ext_getElem? fun b => by rw [← getElem?_mod3 s, h, getElem?_mod3]

/-- Settles O50: repeating, prepending the preamble and mapping to groups each keep different strings different. -/
theorem reversalMattersButForPalindromes : Obligations.ReversalMattersButForPalindromes := by
  intro field reps _ hreps
  calc matModulate field reps = rep reps (matPreamble ++ mod3 field)
      ↔ matPreamble ++ mod3 field.reverse = matPreamble ++ mod3 field := (rep_injective hreps).eq_iff
    _ ↔ mod3 field.reverse = mod3 field := List.append_right_inj _
    _ ↔ field.reverse = field := mod3_injective.eq_iff

/-- The framer after `u` units: stopped, or before the next unit's preamble. -/
def MatFramer.afterUnits (reps u : Nat) : Option MatFramer :=
  if u = reps then none else some { phase := .pre, q := 0, b := if u = 0 then 0 else 25, p := 0, r := u + 1 }

/-- The framer after `u` units, a preamble and `b` groups; with the 25th group the unit is complete. -/
def MatFramer.atBit (reps u b : Nat) : Option MatFramer :=
  if b = 25 then MatFramer.afterUnits reps (u + 1)
  else some { phase := .pay, q := 12, b := b, p := 0, r := u + 1 }

theorem MatFramer.afterUnits_zero {reps : Nat} (hreps : 1 ≤ reps) : MatFramer.afterUnits reps 0 = some .start :=
  if_neg (Nat.ne_of_lt hreps)

theorem MatFramer.afterUnits_reps (reps : Nat) : MatFramer.afterUnits reps reps = none := if_pos rfl

theorem matFramer_emits_preamble (field : BitString) {reps u : Nat} (hu : u < reps) :
    Emits (MatFramer.next field reps) (MatFramer.afterUnits reps u) matPreamble (MatFramer.atBit reps u 0) := by
  rw [MatFramer.afterUnits, if_neg hu.ne]
  have hcount := emits_flatMap_range (next := MatFramer.next field reps) (k := 11)
    (state := fun q => some { phase := .pre, q := q, b := if u = 0 then 0 else 25, p := 0, r := u + 1 })
    (block := fun q => [decide (q < 6)])
    fun q hq => emits_cons (by simp [MatFramer.next, hq.ne]) (emits_nil _)
  exact hcount.append (emits_cons rfl (emits_nil _))

section
variable {field : BitString} (hfield : field.length = 25)
include hfield

/-- The bit index counts from the right end of the field, so bit `b` is that of the reversed field (R200). -/
theorem matFramer_emits_group (reps u : Nat) {b : Nat} (hb : b < 25) :
    Emits (MatFramer.next field reps) (MatFramer.atBit reps u b) (sym (field.reverse.getD b false))
      (MatFramer.atBit reps u (b + 1)) := by
  have hbit : field.reverse.getD b false = field.getD (24 - b) false := by
    rw [List.getD_eq_getElem?_getD, List.getElem?_reverse (by omega), hfield, List.getD_eq_getElem?_getD]
  rw [hbit, MatFramer.atBit, if_neg hb.ne]
  refine emits_cons rfl (emits_cons rfl (emits_cons ?_ (emits_nil _)))
  by_cases hlast : b + 1 = 25
  · simp [MatFramer.atBit, MatFramer.afterUnits, MatFramer.next, groupSymbol, hlast]
  · simp [MatFramer.atBit, MatFramer.next, groupSymbol, hlast]

theorem matFramer_emits_unit {reps u : Nat} (hu : u < reps) :
    Emits (MatFramer.next field reps) (MatFramer.afterUnits reps u) (matPreamble ++ mod3 field.reverse)
      (MatFramer.afterUnits reps (u + 1)) := by
  have hpay := emits_flatMap_range (state := MatFramer.atBit reps u) fun b (hb : b < 25) =>
    matFramer_emits_group hfield reps u hb
  rw [← hfield, ← List.length_reverse, flatMap_range_sym, List.length_reverse, hfield] at hpay
  exact (matFramer_emits_preamble field hu).append hpay

theorem matFramer_emits_matModulate {reps : Nat} (hreps : 1 ≤ reps) :
    Emits (MatFramer.next field reps) (some .start) (matModulate field reps) none := by
  have hunits := emits_flatMap_range (state := MatFramer.afterUnits reps) fun u (hu : u < reps) =>
    matFramer_emits_unit hfield hu
  rw [flatMap_range_const, MatFramer.afterUnits_zero hreps, MatFramer.afterUnits_reps] at hunits
  exact hunits

end

/-- Settles O46: the framer stops after emitting the mattress stream, which has 87·R symbols. -/
theorem sequentialMatFramerIsMatModulate : Obligations.SequentialMatFramerIsMatModulate := by
  intro field reps n hfield hreps hn
  exact (matFramer_emits_matModulate hfield hreps).framerRun_eq ((length_matModulate_field hfield reps).trans_le hn)

end Sys2Proof.Machine
end

section
/-! PROOFS. The CTRL and STATUS instructions (R221 to R224, R233, R234): what each does, and what it leaves alone. -/

namespace Sys2Proof.Machine

section
variable {i : Instr} {op : BitVec 2} {notx irqEn : Bool}

/-- Every START row stores its fields and requests its OP (R222, R223). -/
theorem exec_startRow (hrow : (i, op) ∈ startRows notx irqEn) (s : State) :
    exec i s = .next (requestStart op (storeCtrl op notx irqEn s)) := by
  rcases mem_startRows.mp hrow with ⟨rfl, rfl⟩ | ⟨rfl, rfl⟩ | ⟨rfl, rfl⟩ | ⟨rfl, rfl⟩ <;> rfl

theorem exec_startRow_idle (hrow : (i, op) ∈ startRows notx irqEn) {s : State} (hidle : s.seq = .idle) :
    exec i s = .next (start op (storeCtrl op notx irqEn s)) := by
  rw [exec_startRow hrow, requestStart_idle (s := storeCtrl op notx irqEn s) hidle]

theorem exec_srst_idle {s : State} (hidle : s.seq = .idle) : exec (.srst op notx irqEn) s = .next (softReset s) :=
  congrArg Host.Outcome.next (if_pos hidle)

/-- A request while BUSY, START or SRST, is turned away (R224). -/
theorem exec_request_busy (hrow : (i, op) ∈ startRows notx irqEn ∨ i = .srst op notx irqEn) {s : State}
    (hbusy : s.seq ≠ .idle) : exec i s = .next (setOvr (storeCtrl op notx irqEn s)) := by
  rcases hrow with hrow | rfl
  · rw [exec_startRow hrow, requestStart_busy (s := storeCtrl op notx irqEn s) hbusy]
  · exact congrArg Host.Outcome.next (if_neg hbusy)

end

/-- Settles O10: SRST in IDLE is the soft reset, written out. -/
theorem softResetInIdle : Obligations.SoftResetInIdle := fun _ _ _ _ hidle => exec_srst_idle hidle

/-- Settles O11: the plain write stores CTRL and leaves DONE, of which irq is a function. -/
theorem ctrlWriteStoresThreeFields : Obligations.CtrlWriteStoresThreeFields :=
  fun op notx irqEn s => ⟨storeCtrl op notx irqEn s, rfl, storeCtrl_eq op notx irqEn s, rfl⟩

/-- Settles O12: each START row in IDLE is START(op) of the stored fields. -/
theorem startInIdleIsAccepted : Obligations.StartInIdleIsAccepted :=
  fun notx irqEn _ op s hrow hidle =>
    ⟨start op (storeCtrl op notx irqEn s), exec_startRow_idle hrow hidle, rfl, rfl, start_eq _ _⟩

/-- Settles O13: a request turned away stores CTRL and sets OVR. -/
theorem requestWhileBusySetsOverrun : Obligations.RequestWhileBusySetsOverrun :=
  fun _ _ _ _ _ hrow hbusy => exec_request_busy hrow hbusy

/-- Writing 1 to a flag clears it, writing 0 keeps it (R234). -/
theorem and_not_eq_ite (flag clear : Bool) : (flag && !clear) = if clear then false else flag := by
  cases clear <;> simp

/-- Settles O14: both flags are cleared by the same rule. -/
theorem statusWriteClearsDoneAndOvr : Obligations.StatusWriteClearsDoneAndOvr := by
  intro doneClr ovrClr s
  rw [← and_not_eq_ite, ← and_not_eq_ite]
  rfl

/-- Everything a CTRL or STATUS instruction `i` can make of `s` (R221, R234). -/
inductive ControlEffect (i : Instr) (s : State) : State → Prop
  | plainWrite {op : BitVec 2} {notx irqEn : Bool} (row : i = .ctrlWrite op notx irqEn) :
      ControlEffect i s (storeCtrl op notx irqEn s)
  | start {op : BitVec 2} {notx irqEn : Bool} (row : (i, op) ∈ startRows notx irqEn) (idle : s.seq = .idle) :
      ControlEffect i s (start op (storeCtrl op notx irqEn s))
  | softReset {op : BitVec 2} {notx irqEn : Bool} (row : i = .srst op notx irqEn) (idle : s.seq = .idle) :
      ControlEffect i s (softReset s)
  | turnedAway {op : BitVec 2} {notx irqEn : Bool} (row : (i, op) ∈ startRows notx irqEn ∨ i = .srst op notx irqEn)
      (busy : s.seq ≠ .idle) : ControlEffect i s (setOvr (storeCtrl op notx irqEn s))
  | statusWrite {doneClr ovrClr : Bool} (row : i = .statusW1c doneClr ovrClr) :
      ControlEffect i s (s.setStatus
        { s.status with done := s.status.done && !doneClr, ovr := s.status.ovr && !ovrClr })

/-- A START row is accepted or turned away (R223, R224). -/
theorem controlEffect_of_startRow {i : Instr} {op : BitVec 2} {notx irqEn : Bool} {s t : State}
    (hrow : (i, op) ∈ startRows notx irqEn) (h : exec i s = .next t) : ControlEffect i s t := by
  by_cases hidle : s.seq = .idle
  · rw [exec_startRow_idle hrow hidle] at h
    cases h
    exact .start hrow hidle
  · rw [exec_request_busy (.inl hrow) hidle] at h
    cases h
    exact .turnedAway (.inl hrow) hidle

theorem controlEffect_of_exec {i : Instr} {s t : State} (hformat : i.format ≠ .fanCmd) (h : exec i s = .next t) :
    ControlEffect i s t := by
  cases i with
  | ctrlWrite op notx irqEn => cases h; exact .plainWrite rfl
  | statusW1c doneClr ovrClr => cases h; exact .statusWrite rfl
  | fanSend notx irqEn => exact controlEffect_of_startRow (mem_startRows.mpr (.inl ⟨rfl, rfl⟩)) h
  | matSend notx irqEn => exact controlEffect_of_startRow (mem_startRows.mpr (.inr (.inl ⟨rfl, rfl⟩))) h
  | reservedOp0 notx irqEn => exact controlEffect_of_startRow (mem_startRows.mpr (.inr (.inr (.inl ⟨rfl, rfl⟩)))) h
  | reservedOp3 notx irqEn => exact controlEffect_of_startRow (mem_startRows.mpr (.inr (.inr (.inr ⟨rfl, rfl⟩)))) h
  | srst op notx irqEn =>
    by_cases hidle : s.seq = .idle
    · rw [exec_srst_idle hidle] at h
      cases h
      exact .softReset rfl hidle
    · rw [exec_request_busy (.inr rfl) hidle] at h
      cases h
      exact .turnedAway (.inr rfl) hidle
  | _ => exact absurd rfl hformat

/-- A request for START or SRST is neither the plain write nor a STATUS write (R82). -/
theorem request_row_ne {i : Instr} {op : BitVec 2} {notx irqEn : Bool}
    (hrow : (i, op) ∈ startRows notx irqEn ∨ i = .srst op notx irqEn) :
    i.format ≠ .statusW1c ∧ ¬ ∃ op notx irqEn, i = .ctrlWrite op notx irqEn := by
  rw [mem_startRows] at hrow
  rcases hrow with (⟨rfl, -⟩ | ⟨rfl, -⟩ | ⟨rfl, -⟩ | ⟨rfl, -⟩) | rfl <;> simp [Instr.format]

/-- Settles O26: each effect keeps its part by definition, and the row rules out the clauses about other rows. -/
theorem controlInstructionsLeaveTheRest : Obligations.ControlInstructionsLeaveTheRest := by
  intro i s t hformat h
  cases controlEffect_of_exec hformat h with
  | plainWrite row =>
    subst row
    exact ⟨fun _ => rfl, rfl, rfl, rfl, rfl, fun _ => ⟨rfl, rfl⟩, fun _ => ⟨rfl, rfl, rfl, rfl, rfl, rfl, rfl⟩,
      fun hstatus => Format.noConfusion hstatus, fun _ => ⟨rfl, rfl, rfl⟩⟩
  | start row idle =>
    obtain ⟨hstatus, hplain⟩ := request_row_ne (.inl row)
    exact ⟨fun _ => rfl, rfl, rfl, rfl, rfl, fun hbusy => absurd idle hbusy,
      fun _ => ⟨rfl, rfl, rfl, rfl, rfl, rfl, rfl⟩, fun h => absurd h hstatus, fun h => absurd h hplain⟩
  | softReset row idle =>
    obtain ⟨hstatus, hplain⟩ := request_row_ne (.inr row)
    exact ⟨fun _ => rfl, rfl, rfl, rfl, rfl, fun hbusy => absurd idle hbusy,
      fun hsrst => absurd idle (hsrst _ _ _ row), fun h => absurd h hstatus, fun h => absurd h hplain⟩
  | turnedAway row busy =>
    obtain ⟨hstatus, hplain⟩ := request_row_ne row
    exact ⟨fun _ => rfl, rfl, rfl, rfl, rfl, fun _ => ⟨rfl, rfl⟩, fun _ => ⟨rfl, rfl, rfl, rfl, rfl, rfl, rfl⟩,
      fun h => absurd h hstatus, fun h => absurd h hplain⟩
  | statusWrite row =>
    subst row
    exact ⟨fun _ => rfl, rfl, rfl, rfl, rfl, fun _ => ⟨rfl, rfl⟩, fun _ => ⟨rfl, rfl, rfl, rfl, rfl, rfl, rfl⟩,
      fun _ => ⟨rfl, rfl, rfl⟩, fun ⟨_, _, _, hplain⟩ => Instr.noConfusion hplain⟩

end Sys2Proof.Machine
end

section
/-! PROOFS. How a build ends (R225 to R230), and what the fan instructions leave alone. -/

namespace Sys2Proof.Machine

/-- `t` is `s` after a build whose packed stream and parameters are those of `r`: TXBUF holds the stream from index 0
on and every later byte as before (R229), and the build ended in a dry run or in the hand-over of `r` (R228). -/
structure State.EndsBuild (s t : State) (notx : Bool) (r : Request) : Prop where
  held : ∀ j (h : j < r.bytes.length), t.txbufByte j = r.bytes[j]
  past : ∀ j, r.bytes.length ≤ j → t.txbufByte j = s.txbufByte j
  dryRun : notx = true → t.seq = .idle ∧ t.status = { s.status with err := .ok, done := true } ∧
    t.history = s.history ∧ t.req = s.req
  handedOver : notx = false → t.seq = .txWait ∧ t.status = s.status ∧ t.req = some r ∧
    t.history = s.history ++ [.transmit r]

/-- The end of any build that fits TXBUF. -/
theorem endsBuild_finish_build {syms : BitString} (hfits : (pack syms).length < 8192) (notx : Bool) (f : BitString)
    (n : Nat) (freq : BitVec 32) (rate : BitVec 16) (modn : BitVec 2) (s : State) :
    s.EndsBuild (finish notx (build f n syms freq rate modn s)) notx
      { bytes := pack syms, freq := freq, rate := rate, modn := modn } where
  held := txbufByte_written (s := s) (finish_txbuf _ _)
  past := txbufByte_past (finish_txbuf _ _) (finish_epoch _ _)
  dryRun := by rintro rfl; exact ⟨rfl, rfl, rfl, rfl⟩
  handedOver := by
    rintro rfl
    rw [← request_build hfits f n freq rate modn s]
    exact ⟨rfl, rfl, rfl, rfl⟩

theorem finish_build_txbuf (notx : Bool) (f : BitString) (n : Nat) (syms : BitString) (freq : BitVec 32)
    (rate : BitVec 16) (modn : BitVec 2) (s : State) :
    (finish notx (build f n syms freq rate modn s)).txbuf = s.txbuf.writeBytes 0 (pack syms) :=
  finish_txbuf _ _

theorem length_fanStream (len : Bool) (addr : BitVec 5) (code reps : BitVec 8) :
    (fanStream len addr code reps).length = 36 + 75 * reps.toNat :=
  length_fanModulate_field (length_fanField len addr code) reps.toNat

theorem length_pack_fanStream_le (len : Bool) (addr : BitVec 5) (code reps : BitVec 8) :
    (pack (fanStream len addr code reps)).length ≤ 2396 := by
  have hmax : reps.toNat < 256 := reps.isLt
  rw [length_pack, length_fanStream]
  omega

theorem length_pack_matStream_le (m : MatCmd) (reps : BitVec 8) : (pack (matStream m reps)).length ≤ 2774 := by
  have hmax : reps.toNat < 256 := reps.isLt
  rw [length_pack, length_matStream]
  omega

/-- Settles O51: a repeat count is at most 255. -/
theorem everyBuildFitsTheBuffer : Obligations.EveryBuildFitsTheBuffer := by
  intro len addr code m reps
  have hmax : reps.toNat < 256 := reps.isLt
  refine ⟨?_, length_pack_fanStream_le len addr code reps, ?_, length_pack_matStream_le m reps⟩
  · rw [length_fanStream]; omega
  · rw [length_matStream]; omega

/-- An enabled fan action that passes its checks builds its own stream (R225; log 5). -/
theorem exec_fanRow_endsBuild {len : Bool} {addr : BitVec 5} {i : Instr} {code : BitVec 8} {s : State} {sn : Snapshot}
    (hrow : (i, code) ∈ fanRows len addr) (hon : s.Enabled sn) (hop : sn.op = 0b01#2) (hreps : sn.fanReps ≠ 0#8) :
    ∃ t, exec i s = .next t ∧ s.EndsBuild t sn.notx
      { bytes := pack (fanStream len addr code sn.fanReps), freq := fanFreq, rate := fanRate, modn := askOok } := by
  refine ⟨_, exec_fanRow hrow s, ?_⟩
  have hfits := length_pack_fanStream_le len addr code sn.fanReps
  rw [fanCompute_enabled hon hop hreps]
  exact endsBuild_finish_build (hfits.trans_lt (by decide)) ..

/-- Settles O17: the bytes are those a build writes. -/
theorem fanActionWritesThePackedStream : Obligations.FanActionWritesThePackedStream := by
  intro len addr i code s sn hrow hon hop hreps
  obtain ⟨t, ht, hend⟩ := exec_fanRow_endsBuild hrow hon hop hreps
  exact ⟨t, ht, hend.held, hend.past⟩

/-- Settles O18: the request is the packed stream with the fan parameters. -/
theorem fanActionCompletesOrIssues : Obligations.FanActionCompletesOrIssues := by
  intro len addr i code s sn hrow hon hop hreps
  obtain ⟨t, ht, hend⟩ := exec_fanRow_endsBuild hrow hon hop hreps
  refine ⟨t, ht, hend.dryRun, fun hnotx => ?_⟩
  obtain ⟨hseq, hstatus, hreq, hhistory⟩ := hend.handedOver hnotx
  exact ⟨hseq, hstatus, _, rfl, rfl, rfl, rfl, hreq, hhistory⟩

/-- Settles O22: the request is the packed stream with the mattress parameters, and a build keeps the registers. -/
theorem matSendBuildsAndEnds : Obligations.MatSendBuildsAndEnds := by
  intro s sn rest hi hon hop hreps hzone
  refine ⟨_, step_matSend hi hon hop hreps hzone, ?_⟩
  have hfits := length_pack_matStream_le sn.matCmd sn.matReps
  obtain ⟨hheld, hpast, hdry, hover⟩ := endsBuild_finish_build (hfits.trans_lt (by decide)) sn.notx
    (matEncode sn.matCmd) 25 matFreq matRate askOok (s.setInputs rest)
  obtain ⟨hctrl, hfanCmd, hfanReps, hmatCmd, hmatReps, hzoneMask, hsnap, hinputs, -⟩ := finish_build_frame sn.notx
    (matEncode sn.matCmd) 25 (matStream sn.matCmd sn.matReps) matFreq matRate askOok (s.setInputs rest)
  refine ⟨hheld, hpast, hdry, fun hnotx => ?_, hctrl, hfanCmd, hfanReps, hmatCmd, hmatReps, hzoneMask, hsnap, hinputs⟩
  obtain ⟨hseq, hstatus, hreq, hhistory⟩ := hover hnotx
  exact ⟨hseq, hstatus, _, rfl, rfl, rfl, rfl, hreq, hhistory⟩

/-- Every fan instruction is one compute step, of its action's field or of none (R132 to R144). -/
theorem exec_fanInstrs {action : BitVec 4} {len : Bool} {addr : BitVec 5} {i : Instr}
    (hi : i ∈ fanInstrs action len addr) : ∃ f, ∀ s, exec i s = .next (fanCompute f s) := by
  rcases List.mem_append.mp hi with hrow | hreserved
  · obtain ⟨⟨i, code⟩, hmem, rfl⟩ := List.mem_map.mp hrow
    exact ⟨_, exec_fanRow hmem⟩
  · obtain rfl := List.mem_singleton.mp hreserved
    exact ⟨none, fun _ => rfl⟩

/-- Nothing is computed outside COMPUTE (log 11). -/
theorem fanCompute_other {s : State} (h : s.seq ≠ .compute) (f : Option BitString) : fanCompute f s = s := by
  rcases fanCompute_cases f s with ⟨e, -⟩ | ⟨sn, hseq, -⟩
  · exact e
  · exact absurd hseq h

/-- Without a field the compute step stores nothing: it completes with an error, or is not enabled (R132). -/
theorem fanCompute_none (s : State) : fanCompute none s = s ∨ ∃ e, fanCompute none s = complete e s := by
  rcases fanCompute_cases none s with ⟨e, -⟩ | ⟨sn, -, -, -, ⟨-, e⟩ | ⟨-, -, e⟩ | ⟨field, -, hf, -⟩⟩
  · exact .inl e
  · exact .inr ⟨_, e⟩
  · exact .inr ⟨_, e⟩
  · cases hf

/-- The fan compute step keeps every byte past the stream it may store (R229). -/
theorem fanCompute_txbufByte_past {s : State} {sn : Snapshot} (hsnap : s.snap = some sn) (field : BitString) {j : Nat}
    (hj : (pack (fanModulate field sn.fanReps.toNat)).length ≤ j) :
    (fanCompute (some field) s).txbufByte j = s.txbufByte j := by
  rcases fanCompute_cases (some field) s with ⟨e, -⟩ | ⟨sn', -, hsnap', -, ⟨-, e⟩ | ⟨-, hf, -⟩ | ⟨field', -, hf, e⟩⟩
  · rw [e]
  · rw [e]; rfl
  · cases hf
  · cases hf
    cases hsnap.symm.trans hsnap'
    rw [e]
    exact txbufByte_past (finish_build_txbuf ..) (finish_epoch _ _) j hj

/-- What every fan compute step leaves alone (R225, R232). -/
theorem fanCompute_frame (f : Option BitString) (s : State) :
    let t := fanCompute f s
    t.ctrl = s.ctrl ∧ t.fanCmd = s.fanCmd ∧ t.fanReps = s.fanReps ∧ t.matCmd = s.matCmd ∧ t.matReps = s.matReps ∧
    t.zoneMask = s.zoneMask ∧ t.snap = s.snap ∧ t.inputs = s.inputs ∧ t.draws = s.draws ∧ t.epoch = s.epoch ∧
    t.status.ovr = s.status.ovr ∧ t.status.lastOp = s.status.lastOp := by
  rcases fanCompute_cases f s with ⟨e, -⟩ | ⟨sn, -, -, -, ⟨-, e⟩ | ⟨-, -, e⟩ | ⟨field, -, -, e⟩⟩ <;> rw [e]
  case inr.inr.inr =>
    obtain ⟨hctrl, hfanCmd, hfanReps, hmatCmd, hmatReps, hzoneMask, hsnap, hinputs, hdraws, hepoch, hovr, hlastOp, -⟩ :=
      finish_build_frame sn.notx field 13 (fanModulate field sn.fanReps.toNat) fanFreq fanRate askOok s
    exact ⟨hctrl, hfanCmd, hfanReps, hmatCmd, hmatReps, hzoneMask, hsnap, hinputs, hdraws, hepoch, hovr, hlastOp⟩
  all_goals exact ⟨rfl, rfl, rfl, rfl, rfl, rfl, rfl, rfl, rfl, rfl, rfl, rfl⟩

/-- Settles O27: a fan instruction is a compute step, and the row tells its field. -/
theorem fanInstructionsLeaveTheRest : Obligations.FanInstructionsLeaveTheRest := by
  intro action len addr i s t hi h
  obtain ⟨f, hexec⟩ := exec_fanInstrs hi
  have ht : t = fanCompute f s := by rw [hexec] at h; cases h; rfl
  obtain ⟨hctrl, hfanCmd, hfanReps, hmatCmd, hmatReps, hzoneMask, hsnap, hinputs, hdraws, hepoch, hovr, hlastOp⟩ :=
    fanCompute_frame f s
  rw [← ht] at hctrl hfanCmd hfanReps hmatCmd hmatReps hzoneMask hsnap hinputs hdraws hepoch hovr hlastOp
  refine ⟨hctrl, hfanCmd, hfanReps, hmatCmd, hmatReps, hzoneMask, hsnap, hinputs, hdraws, hepoch, hovr, hlastOp,
    fun code sn hrow hheld j hj => ?_, fun hreserved => ?_, fun hseq => ?_⟩
  · rw [exec_fanRow hrow] at h
    cases h
    exact fanCompute_txbufByte_past hheld _ hj
  · subst hreserved
    cases h
    rcases fanCompute_none s with e | ⟨err, e⟩ <;> rw [e] <;> exact ⟨fun _ => rfl, rfl, rfl, rfl⟩
  · rw [ht, fanCompute_other hseq]

end Sys2Proof.Machine
end

section
/-! PROOFS. Register writes (R235, R236) and the words a read returns (R237). -/

namespace Sys2Proof.Machine

/-- Settles O30: each command register's offset takes no instruction, and the write stores the word's fields. -/
theorem commandWriteStoresDefinedFields : Obligations.CommandWriteStoresDefinedFields := by
  intro s rest w
  refine ⟨?_, ?_, ?_, ?_, ?_⟩ <;> intro hi <;>
    exact step_legalWrite hi (by decide) (by decide) (by decide) (by decide)

/-- No command register stands past ZONE_MASK (R22). -/
theorem writeReg_past_zoneMask {offset : Nat} (h : 0x1C ≤ offset) (w : Word) (s : State) : writeReg offset w s = s := by
  rcases writeReg_cases offset w s with ⟨e, -⟩ | ⟨e, -⟩ | ⟨e, -⟩ | ⟨e, -⟩ | ⟨e, -⟩ | hsame
  case inr.inr.inr.inr.inr => exact hsame
  all_goals omega

/-- Settles O31: such an offset takes no instruction and is no command register. -/
theorem writeElsewhereIsIgnored : Obligations.WriteElsewhereIsIgnored := by
  intro s rest offset w hi halign hle hpast
  rw [step_legalWrite hi halign hle (by rw [ctrlOffset]; omega) (by rw [statusOffset]; omega),
    writeReg_past_zoneMask hpast]
  rfl

/-- The word `x` is the number `value`, which fits its lowest `width` bits. -/
structure HoldsBelow (x : Word) (width value : Nat) : Prop where
  toNat_eq : x.toNat = value
  lt : value < 2 ^ width

theorem holdsBelow_bitWord (b : Bool) : HoldsBelow (bitWord b) 1 b.toNat := by
  cases b <;> exact ⟨rfl, by decide⟩

theorem holdsBelow_setWidth {n : Nat} (v : BitVec n) (hn : n ≤ 32 := by decide) :
    HoldsBelow (v.setWidth 32) n v.toNat :=
  ⟨BitVec.toNat_setWidth_of_le hn, v.isLt⟩

section
variable {x y : Word} {k j m p q : Nat}

/-- A field or-ed in above the bits in use adds its number times its place (R237). -/
theorem HoldsBelow.or_shiftLeft (hx : HoldsBelow x k p) (hy : HoldsBelow y m q) (hkj : k ≤ j) (hfit : j + m ≤ 32) :
    HoldsBelow (x ||| y <<< j) (j + m) (p + q * 2 ^ j) := by
  have hp : p < 2 ^ j := hx.lt.trans_le (Nat.pow_le_pow_right (by decide) hkj)
  have hsum : p + q * 2 ^ j < 2 ^ (j + m) := by
    calc p + q * 2 ^ j < (q + 1) * 2 ^ j := by rw [Nat.succ_mul, Nat.add_comm]; exact Nat.add_lt_add_left hp _
      _ ≤ 2 ^ m * 2 ^ j := Nat.mul_le_mul_right _ hy.lt
      _ = 2 ^ (j + m) := by rw [← Nat.pow_add, Nat.add_comm]
  have hfits : q <<< j < 2 ^ 32 := by
    rw [Nat.shiftLeft_eq]
    exact (Nat.le_add_left _ p).trans_lt (hsum.trans_le (Nat.pow_le_pow_right (by decide) hfit))
  refine ⟨?_, hsum⟩
  rw [BitVec.toNat_or, BitVec.toNat_shiftLeft, hx.toNat_eq, hy.toNat_eq, Nat.mod_eq_of_lt hfits, Nat.or_comm,
    ← Nat.shiftLeft_add_eq_or_of_lt hp, Nat.shiftLeft_eq, Nat.add_comm]

theorem HoldsBelow.or_bit (hx : HoldsBelow x k p) (j : Nat) (b : Bool) (hkj : k ≤ j := by decide)
    (hfit : j < 32 := by decide) :
    HoldsBelow (x ||| bitWord b <<< j) (j + 1) (p + b.toNat * 2 ^ j) :=
  hx.or_shiftLeft (holdsBelow_bitWord b) hkj hfit

theorem HoldsBelow.or_field (hx : HoldsBelow x k p) (j : Nat) {n : Nat} (v : BitVec n) (hkj : k ≤ j := by decide)
    (hfit : j + n ≤ 32 := by decide) :
    HoldsBelow (x ||| v.setWidth 32 <<< j) (j + n) (p + v.toNat * 2 ^ j) :=
  hx.or_shiftLeft (holdsBelow_setWidth v (by omega)) hkj hfit

end

theorem Ctrl.toNat_toWord (c : Ctrl) :
    c.toWord.toNat = c.irqEn.toNat * 16 + c.notx.toNat * 8 + c.op.toNat * 2 := by
  have h := (holdsBelow_bitWord false |>.or_field 1 c.op |>.or_bit 3 c.notx |>.or_bit 4 c.irqEn
    |>.or_bit 31 false).toNat_eq
  rw [Bool.toNat_false] at h
  exact h.trans (by omega)

theorem FanCmd.toNat_toWord (c : FanCmd) :
    c.toWord.toNat = c.action.toNat * 256 + c.addrLen.toNat * 128 + c.addr.toNat := by
  have h := (holdsBelow_setWidth c.addr |>.or_bit 7 c.addrLen |>.or_field 8 c.action).toNat_eq
  exact h.trans (by omega)

theorem MatCmd.toNat_toWord (c : MatCmd) :
    c.toWord.toNat = c.preheat.toNat * 2 ^ 18 + c.stayOn.toNat * 2 ^ 17 + c.on.toNat * 2 ^ 16
      + c.heat.toNat * 2 ^ 12 + c.zone.toNat * 2 ^ 8 + c.code.toNat := by
  have h := (holdsBelow_setWidth c.code |>.or_field 8 c.zone |>.or_field 12 c.heat |>.or_bit 16 c.on
    |>.or_bit 17 c.stayOn |>.or_bit 18 c.preheat).toNat_eq
  exact h.trans (by omega)

/-- BUSY is 1 but in IDLE (R38). -/
theorem State.toNat_busy (s : State) : s.busy.toNat = if s.seq = .idle then 0 else 1 := by
  by_cases h : s.seq = .idle <;> simp [State.busy, h]

theorem State.toNat_statusWord (s : State) :
    s.statusWord.toNat = s.status.lastOp.toNat * 256 + s.status.err.code.toNat * 16
      + (s.status.done && s.ctrl.irqEn).toNat * 8 + s.status.ovr.toNat * 4 + s.status.done.toNat * 2
      + (if s.seq = .idle then 0 else 1) := by
  have hascending : s.statusWord = bitWord s.busy ||| (bitWord s.status.done <<< 1) ||| (bitWord s.status.ovr <<< 2)
      ||| (bitWord s.irq <<< 3) ||| (s.status.err.code.setWidth 32 <<< 4) ||| (s.status.lastOp.setWidth 32 <<< 8) := by
    unfold State.statusWord
    ac_rfl
  have h := (holdsBelow_bitWord s.busy |>.or_bit 1 s.status.done |>.or_bit 2 s.status.ovr |>.or_bit 3 s.irq
    |>.or_field 4 s.status.err.code |>.or_field 8 s.status.lastOp).toNat_eq
  rw [hascending, h, State.toNat_busy, State.irq]
  omega

/-- Settles O34: CTRL, STATUS, FAN_CMD and MAT_CMD are sums of fields, and every other register is one field. -/
theorem registerWordIsItsFields : Obligations.RegisterWordIsItsFields := by
  intro s
  have hfield {n : Nat} (v : BitVec n) (hn : n ≤ 32 := by decide) : (v.setWidth 32).toNat = v.toNat :=
    BitVec.toNat_setWidth_of_le hn
  exact ⟨s.ctrl.toNat_toWord, s.toNat_statusWord, s.fanCmd.toNat_toWord, hfield s.fanReps, s.matCmd.toNat_toWord,
    hfield s.matReps, hfield s.zoneMask, hfield s.results.field, hfield s.results.fieldLen, hfield s.results.symLen,
    hfield s.results.byteLen, rfl, hfield s.results.txRate, hfield s.results.txMod⟩

end Sys2Proof.Machine
end

section
/-! PROOFS. How an operation ends (R231, R232), and that every accepted START does, with its one code (R269). -/

namespace Sys2Proof.Machine

/-- Settles O25: the request is pending, so the answer completes it. -/
theorem radioAnswerEndsTheRequest : Obligations.RadioAnswerEndsTheRequest := by
  intro s ans rest hi hw
  have hanswer := radioAnswer_txWait (s := s.setInputs rest) hw ans
  refine (step_turn hi).trans (congrArg Host.Outcome.next (hanswer.trans ?_))
  cases ans <;> rfl

/-- Settles O58: of the effects of a step, those that reach IDLE from outside it but the reset are completions. -/
theorem everyCompletionSetsDone : Obligations.EveryCompletionSetsDone := by
  intro s t h hreset hbusy hidle
  cases step_effect h with
  | hardwareReset head => exact absurd head hreset
  | softReset w _ _ idle => exact absurd idle hbusy
  | start w _ _ _ idle => exact absurd idle hbusy
  | statusWrite w _ eq => exact absurd ((State.sameWork_of_statusWrite eq).seq.symm.trans hidle) hbusy
  | answer _ _ err draws eq => subst eq; exact ⟨rfl, rfl, rfl, rfl, rfl⟩
  | failedCheck _ _ err eq => subst eq; exact ⟨rfl, rfl, rfl, rfl, rfl⟩
  | build _ _ sn _ _ bytes r _ eq =>
    cases hnotx : sn.notx <;> rw [hnotx] at eq <;> subst eq
    · exact Seq.noConfusion hidle
    · exact ⟨rfl, rfl, rfl, rfl, rfl⟩
  | unrelated same => exact absurd (same.seq.symm.trans hidle) hbusy

/-- The code an operation with the snapshot `sn` ends with, once the radio's answer is known (R269). -/
def Snapshot.endErr (sn : Snapshot) (ans : RadioAnswer) : ErrCode := sn.checkErr.getD (sentErr sn.notx ans)

/-- Only the twelve indices of R84 name an action (R132). -/
theorem isNone_fanCode (action : BitVec 4) : (fanCode action).isNone = decide (12 ≤ action.toNat) := by
  revert action
  decide

/-- The snapshot an accepted START word takes ends with the word's expected code. -/
theorem endErr_snapshot (s : State) (w : Word) (irqEn : Bool) (op : BitVec 2) (ans : RadioAnswer) :
    ((storeCtrl op (w.getLsbD 3) irqEn s).snapshot (w.extractLsb' 1 2)).endErr ans = expectedErr s w ans := by
  unfold Snapshot.endErr Snapshot.checkErr expectedErr
  rw [isNone_fanCode]
  by_cases hfan : w.extractLsb' 1 2 = 0b01#2
  · by_cases hreps : s.fanReps = 0#8
    · simp [State.snapshot, storeCtrl, hfan, hreps]
    · by_cases haction : 12 ≤ s.fanCmd.action.toNat <;> simp [State.snapshot, storeCtrl, hfan, hreps, haction]
  · by_cases hmat : w.extractLsb' 1 2 = 0b10#2
    · by_cases hreps : s.matReps = 0#8
      · simp [State.snapshot, storeCtrl, hmat, hreps]
      · cases hzone : s.zoneMask.getLsbD s.matCmd.zone.toNat <;>
          simp [State.snapshot, storeCtrl, Snapshot.zoneAccepted, hmat, hreps, hzone]
    · simp [State.snapshot, storeCtrl, hfan, hmat]

/-- An accepted START enables the compute step with the snapshot it takes (R223). -/
theorem enabled_start (op : BitVec 2) (s : State) : (start op s).turnTaken.Enabled (s.snapshot op) := ⟨rfl, rfl⟩

/-- `t` is the end of an operation of `op` with the code `err` (R232). -/
structure State.EndedWith (t : State) (op : BitVec 2) (err : ErrCode) : Prop where
  idle : t.seq = .idle
  done : t.status.done = true
  lastOp : t.status.lastOp = op
  err : t.status.err = err

/-- `u` is past the compute step of an operation of `op` whose code is `err` of the radio's answer: it has ended
whatever the radio would say, or the radio's answer is its code. -/
inductive State.Computed (u : State) (op : BitVec 2) (err : RadioAnswer → ErrCode) : Prop
  | ended (h : ∀ ans, u.EndedWith op (err ans))
  | pending (txWait : u.seq = .txWait) (lastOp : u.status.lastOp = op) (answers : ∀ ans, ans.err = err ans)

theorem finish_inputs (notx : Bool) (s : State) : (finish notx s).inputs = s.inputs := by
  cases notx <;> rfl

theorem finish_draws (notx : Bool) (s : State) : (finish notx s).draws = s.draws := by
  cases notx <;> rfl

/-- The compute step ends the operation or leaves it to the radio (R225 to R228). -/
theorem sequencerTurn_computed {s : State} {sn : Snapshot} (hon : s.Enabled sn) :
    ∃ u, sequencerTurn s = .next u ∧ u.inputs = s.inputs ∧ u.draws = s.draws ∧
      u.Computed s.status.lastOp sn.endErr := by
  have hfinish (hcheck : sn.checkErr = none) (v : State) (hv : v.status.lastOp = s.status.lastOp) :
      (finish sn.notx v).Computed s.status.lastOp sn.endErr := by
    cases hnotx : sn.notx
    · exact .pending rfl hv fun ans => by cases ans <;> simp [Snapshot.endErr, hcheck, hnotx, sentErr, RadioAnswer.err]
    · exact .ended fun ans => ⟨rfl, rfl, hv, by simp [Snapshot.endErr, hcheck, hnotx, sentErr, finish, complete]⟩
  obtain ⟨hseq, hsnap⟩ := hon
  rcases sequencerTurn_enabled hseq hsnap with ⟨e, hcheck, h⟩ | ⟨f, hcheck, -, -, -, h⟩ | ⟨hcheck, -, -, -, h⟩
  · exact ⟨_, h, rfl, rfl, .ended fun ans => ⟨rfl, rfl, rfl, by simp [Snapshot.endErr, hcheck, complete]⟩⟩
  · exact ⟨_, h, finish_inputs _ _, finish_draws _ _, hfinish hcheck _ rfl⟩
  · exact ⟨_, h, finish_inputs _ _, finish_draws _ _, hfinish hcheck _ rfl⟩

/-- The compute step is taken in the sequencer's turn, or where no turn is given (R225; log 1). -/
theorem step_compute {s : State} (hseq : s.seq = .compute) (head : s.inputs = [] ∨ s.inputs.head? = some .sequencer) :
    step s = sequencerTurn s.turnTaken := by
  rcases head with hnil | hhead
  · rw [step_quiet hnil, quietTurn_other (by simp [hseq]), State.turnTaken_of_nil hnil]
  · obtain ⟨rest, hi⟩ := List.head?_eq_some_iff.mp hhead
    rw [step_turn hi, State.turnTaken, hi]
    rfl

section
variable {u : State} {op : BitVec 2} {err : RadioAnswer → ErrCode} (h : u.Computed op err)
include h

/-- The radio's turn ends a computed operation, or finds it ended (R231). -/
theorem step_radio_endedWith {ans : RadioAnswer} (hi : u.inputs = [.radio ans]) :
    ∃ t, step u = .next t ∧ t.EndedWith op (err ans) := by
  refine ⟨radioAnswer ans (u.setInputs []), step_turn hi, ?_⟩
  cases h with
  | ended hended =>
    obtain ⟨hidle, hdone, hlastOp, herr⟩ := hended ans
    rw [radioAnswer_other (s := u.setInputs []) (by simp [hidle])]
    exact ⟨hidle, hdone, hlastOp, herr⟩
  | pending txWait lastOp answers =>
    rw [radioAnswer_txWait (s := u.setInputs []) txWait]
    exact ⟨rfl, rfl, lastOp, answers ans⟩

/-- Where no turn is given the radio answers a computed operation by itself, or it is ended (R276; log 4). -/
theorem step_quiet_endedWith (hi : u.inputs = []) :
    ∃ t, step u = .next t ∧ t.EndedWith op (err (drawnAnswer u.draws)) := by
  rw [step_quiet hi]
  cases h with
  | ended hended =>
    have hidle := (hended .ok).idle
    rw [quietTurn_other (by simp [hidle]), sequencerTurn_other (by simp [hidle])]
    exact ⟨u, rfl, hended _⟩
  | pending txWait lastOp answers =>
    exact ⟨_, quietTurn_txWait txWait, rfl, rfl, lastOp, answers _⟩

end

/-- An accepted START and its compute step, two steps of a run, lead to the computed operation (R223, R225). -/
theorem run_start_computed {s : State} {w : Word} {rest : List Turn} (hidle : s.seq = .idle)
    (hstart : w.getLsbD 0 = true) (hsrst : w.getLsbD 31 = false) (hi : s.inputs = .host (.write 32 0x00 w) :: rest)
    (hrest : rest = [] ∨ rest.head? = some .sequencer) (n : Nat) :
    ∃ u, Sys2Proof.core.run (n + 2) s = Sys2Proof.core.run n u ∧ u.inputs = rest.tail ∧ u.draws = s.draws ∧
      u.Computed (w.extractLsb' 1 2) (expectedErr s w) := by
  have haccept := (step_ctrlWrite hi).trans (exec_start w hsrst hstart (s.setInputs rest))
  rw [requestStart_idle (s := storeCtrl _ _ _ (s.setInputs rest)) hidle] at haccept
  obtain ⟨u, hturn, hinputs, hdraws, hcomputed⟩ := sequencerTurn_computed (enabled_start (w.extractLsb' 1 2)
    (storeCtrl (w.extractLsb' 1 2) (w.getLsbD 3) (w.getLsbD 4) (s.setInputs rest)))
  rw [funext (endErr_snapshot (s.setInputs rest) w _ _)] at hcomputed
  exact ⟨u, (run_succ haccept _).trans (run_succ ((step_compute rfl hrest).trans hturn) n), hinputs, hdraws, hcomputed⟩

/-- Settles O60: the START and its compute step leave the operation ended or to the radio, whose answer ends it. -/
theorem everyAcceptedStartEndsWithItsCode : Obligations.EveryAcceptedStartEndsWithItsCode := by
  intro s w hidle hstart hsrst
  refine ⟨fun ans hi => ?_, fun hi => ?_⟩
  · obtain ⟨u, hrun, hinputs, -, hcomputed⟩ := run_start_computed hidle hstart hsrst hi (.inr rfl) 1
    obtain ⟨t, hstep, hend, hdone, hlastOp, herr⟩ := step_radio_endedWith hcomputed hinputs
    exact ⟨t, hrun.trans (run_succ hstep 0), hend, hdone, hlastOp, herr⟩
  · obtain ⟨u, hrun, hinputs, hdraws, hcomputed⟩ := run_start_computed hidle hstart hsrst hi (.inl rfl) 1
    obtain ⟨t, hstep, hend, hdone, hlastOp, herr⟩ := step_quiet_endedWith hcomputed hinputs
    rw [hdraws] at herr
    exact ⟨t, hrun.trans (run_succ hstep 0), hend, hdone, hlastOp, herr⟩

end Sys2Proof.Machine
end

section
/-! PROOFS. What a compute step that fails a check does (R262 to R265), what stops the machine (R260, R268), and what
hands a request to the radio (R275). -/

namespace Sys2Proof.Machine

/-- The request a send hands over once it has passed every check (R225, R226, R269). -/
inductive Snapshot.Sends (sn : Snapshot) : Request → Prop
  | fan (op : sn.op = 0b01#2) (reps : sn.fanReps ≠ 0#8) (f : BitString)
      (encoded : fanEncode (addrString sn.fanCmd.addrLen sn.fanCmd.addr) sn.fanCmd.action = some f) :
      sn.Sends { bytes := pack (fanModulate f sn.fanReps.toNat), freq := fanFreq, rate := fanRate, modn := askOok }
  | mat (op : sn.op = 0b10#2) (reps : sn.matReps ≠ 0#8) (zone : sn.zoneAccepted = true) :
      sn.Sends { bytes := pack (matStream sn.matCmd sn.matReps), freq := matFreq, rate := matRate, modn := askOok }

/-- What a step can add to the history: nothing, a value the host reads, or the request of a checked send, which is
then pending (R46, R230). -/
inductive HistoryEffect (s t : State) : Prop
  | kept (eq : t.history = s.history)
  | read (offset : Nat) (value : Word) (eq : t.history = s.history ++ [.readData offset value])
  | handedOver (sn : Snapshot) (on : s.Enabled sn) (notx : sn.notx = false) (r : Request) (sends : sn.Sends r)
      (txWait : t.seq = .txWait) (pending : t.req = some r) (eq : t.history = s.history ++ [.transmit r])

/-- The end of a build keeps the history or hands its request over (R228). -/
theorem historyEffect_of_endsBuild {s t : State} {sn : Snapshot} {r : Request} (hon : s.Enabled sn)
    (hend : s.turnTaken.EndsBuild t sn.notx r) (hsends : sn.Sends r) : HistoryEffect s t := by
  cases hnotx : sn.notx
  · obtain ⟨hseq, -, hreq, hhistory⟩ := hend.handedOver hnotx
    exact .handedOver sn hon hnotx r hsends hseq hreq hhistory
  · obtain ⟨-, -, hhistory, -⟩ := hend.dryRun hnotx
    exact .kept hhistory

/-- The sequencer's turn keeps the history but where it ends a build. -/
theorem historyEffect_of_sequencerTurn {s t : State} (h : sequencerTurn s.turnTaken = .next t) : HistoryEffect s t := by
  rcases sequencerTurn_next h with rfl | ⟨hseq, sn, hsnap, ⟨err, -, rfl⟩ | ⟨f, -, hop, hreps, hf, rfl⟩ |
    ⟨-, hop, hreps, hzone, rfl⟩⟩
  · exact .kept rfl
  · exact .kept rfl
  · have hfits : (pack (fanModulate f sn.fanReps.toNat)).length < 8192 := by
      have hmax := sn.fanReps.isLt
      rw [length_pack, length_fanModulate_field (length_of_fanEncode hf)]
      omega
    exact historyEffect_of_endsBuild ⟨hseq, hsnap⟩ (endsBuild_finish_build hfits ..) (.fan hop hreps f hf)
  · have hfits := (length_pack_matStream_le sn.matCmd sn.matReps).trans_lt (by decide : 2774 < 8192)
    exact historyEffect_of_endsBuild ⟨hseq, hsnap⟩ (endsBuild_finish_build hfits ..) (.mat hop hreps hzone)

theorem radioAnswer_history (ans : RadioAnswer) (s : State) : (radioAnswer ans s).history = s.history := by
  by_cases hw : s.seq = .txWait
  · rw [radioAnswer_txWait hw]; rfl
  · rw [radioAnswer_other hw]

theorem writeReg_history (offset : Nat) (w : Word) (s : State) : (writeReg offset w s).history = s.history := by
  rcases writeReg_cases offset w s with ⟨-, e⟩ | ⟨-, e⟩ | ⟨-, e⟩ | ⟨-, e⟩ | ⟨-, e⟩ | e <;> rw [e] <;> rfl

/-- A CTRL or STATUS write keeps the history (R222 to R224, R233, R234). -/
theorem history_of_exec_control {f : Format} (hf : f ≠ .fanCmd) {w : Word} {s t : State}
    (h : exec (decode f w) s.turnTaken = .next t) : t.history = s.history := by
  have hformat : (decode f w).format ≠ .fanCmd := by
    obtain ⟨-, hformat, -⟩ := everyWordIsALegalInstruction f w
    rwa [hformat]
  obtain ⟨-, hhistory, -⟩ := controlInstructionsLeaveTheRest _ _ _ hformat h
  exact hhistory

theorem historyEffect_of_step {s t : State} (h : step s = .next t) : HistoryEffect s t := by
  rcases step_cases h with ⟨-, rfl⟩ | ⟨offset, -, rfl⟩ | ⟨w, -, e⟩ | ⟨w, -, e⟩ | ⟨offset, w, -, -, -, rfl⟩ |
    ⟨ans, -, rfl⟩ | ⟨-, -, rfl⟩ | ⟨-, e⟩
  · exact .kept rfl
  · exact .read offset _ (congrArg State.history (readPort_eq offset s.turnTaken))
  · exact .kept (history_of_exec_control (f := .ctrlCmd) (by decide) e)
  · exact .kept (history_of_exec_control (f := .statusW1c) (by decide) e)
  · exact .kept (writeReg_history offset w s.turnTaken)
  · exact .kept (radioAnswer_history ans s.turnTaken)
  · exact .kept rfl
  · exact historyEffect_of_sequencerTurn e

/-- Settles O54: of the effects of a step on the history, only the hand-over of a checked send adds a Transmit. -/
theorem transmitOnlyByACheckedSend : Obligations.TransmitOnlyByACheckedSend := by
  intro s t r h htransmit
  cases historyEffect_of_step h with
  | kept eq => simp [eq] at htransmit
  | read offset value eq => simp [eq] at htransmit
  | handedOver sn on notx r' sends txWait pending eq =>
    obtain rfl : r' = r := by simpa [eq] using htransmit
    refine ⟨txWait, pending, sn, on, notx, ?_⟩
    cases sends with
    | fan op reps f encoded => exact .inl ⟨op, reps, f, encoded, rfl⟩
    | mat op reps zone => exact .inr ⟨op, reps, zone, rfl⟩

theorem exec_next (i : Instr) (s : State) : ∃ t, exec i s = .next t := by
  cases i <;> exact ⟨_, rfl⟩

/-- The compute step has a next state, enabled or not (R260). -/
theorem sequencerTurn_total (s : State) : ∃ t, sequencerTurn s = .next t := by
  by_cases hon : ∃ sn, s.seq = .compute ∧ s.snap = some sn
  · obtain ⟨sn, hseq, hsnap⟩ := hon
    rcases sequencerTurn_enabled hseq hsnap with ⟨_, -, e⟩ | ⟨_, -, -, -, -, e⟩ | ⟨-, -, -, -, e⟩ <;> exact ⟨_, e⟩
  · exact ⟨s, sequencerTurn_other fun sn hseq hsnap => hon ⟨sn, hseq, hsnap⟩⟩

/-- The host's turn has a next state, or its access is illegal and answers a bus error (R65). -/
theorem hostTurn_next_or_busError (a : HostAccess) (s : State) :
    (∃ t, hostTurn a s = .next t) ∨ ∃ offset, a.legal = false ∧ hostTurn a s = .fault (.busError offset) := by
  rcases hostTurn_cases a s with ⟨width, offset, hillegal, ha, e⟩ | ⟨_, -, -, -, e⟩ | ⟨w, -, e⟩ | ⟨w, -, e⟩ |
    ⟨_, _, -, -, -, -, -, e⟩
  · refine .inr ⟨offset, ?_, e⟩
    rcases ha with rfl | ⟨w, rfl⟩ <;> exact decide_eq_false hillegal
  · exact .inl ⟨_, e⟩
  · exact .inl (e ▸ exec_next _ s)
  · exact .inl (e ▸ exec_next _ s)
  · exact .inl ⟨_, e⟩

/-- Settles O29: the turns of the sequencer, the radio and the platform have a next state, and so has a quiet step. -/
theorem onlyAnIllegalAccessStops : Obligations.OnlyAnIllegalAccessStops := by
  intro s
  cases hi : s.inputs with
  | nil =>
    rw [step_quiet hi]
    by_cases hw : s.seq = .txWait
    · exact .inl ⟨_, quietTurn_txWait hw⟩
    · rw [quietTurn_other hw]
      exact .inl (sequencerTurn_total s)
  | cons turn rest =>
    rw [step_turn hi]
    cases turn with
    | sequencer => exact .inl (sequencerTurn_total _)
    | radio ans => exact .inl ⟨_, rfl⟩
    | hardwareReset => exact .inl ⟨_, rfl⟩
    | host a =>
      rcases hostTurn_next_or_busError a (s.setInputs rest) with hnext | ⟨offset, hillegal, e⟩
      · exact .inl hnext
      · exact .inr ⟨a, rest, offset, rfl, hillegal, e⟩

section
variable {s : State} {sn : Snapshot} (hon : s.Enabled sn)
include hon

/-- An operation that fails a check completes with that check's error (R232, R269). -/
theorem sequencerTurn_failedCheck {e : ErrCode} (hcheck : sn.checkErr = some e) :
    sequencerTurn s = .next (complete e s) := by
  obtain ⟨hseq, hsnap⟩ := hon
  rcases sequencerTurn_enabled hseq hsnap with ⟨e', hcheck', h⟩ | ⟨_, hpass, -⟩ | ⟨hpass, -⟩
  · cases hcheck.symm.trans hcheck'
    exact h
  · cases hcheck.symm.trans hpass
  · cases hcheck.symm.trans hpass

theorem step_failedCheck {rest : List Turn} (hi : s.inputs = .sequencer :: rest) {e : ErrCode}
    (hcheck : sn.checkErr = some e) : step s = .next (complete e (s.setInputs rest)) :=
  (step_turn hi).trans (sequencerTurn_failedCheck (s := s.setInputs rest) hon hcheck)

/-- The repeat count is checked before the encoder's answer (R264, R269). -/
theorem fanCompute_repeatZero (hop : sn.op = 0b01#2) (hreps : sn.fanReps = 0#8) (f : Option BitString) :
    fanCompute f s = complete .invalidRepeat s := by
  obtain ⟨hseq, hsnap⟩ := hon
  simp [fanCompute, hseq, hsnap, hop, hreps]

/-- With no field the enabled compute step completes with INVALID_ACTION (R262). -/
theorem fanCompute_noField (hop : sn.op = 0b01#2) (hreps : sn.fanReps ≠ 0#8) :
    fanCompute none s = complete .invalidAction s := by
  obtain ⟨hseq, hsnap⟩ := hon
  simp [fanCompute, hseq, hsnap, hop, hreps]

end

/-- Settles O19: every fan instruction is a fan compute step, and the repeat count is the first check of both. -/
theorem repeatCountZeroIsRejected : Obligations.RepeatCountZeroIsRejected := by
  refine ⟨fun action len addr i s sn hi hon hop hreps => ?_, fun s sn rest hi hon hop hreps => ?_⟩
  · obtain ⟨f, hexec⟩ := exec_fanInstrs hi
    rw [hexec, fanCompute_repeatZero hon hop hreps]
    rfl
  · have hcheck : sn.checkErr = some .invalidRepeat := by simp [Snapshot.checkErr, hop, hreps]
    exact step_failedCheck hon hi hcheck

/-- Settles O20: the instruction has no field to build, and the indices 12 to 15 name no action. -/
theorem reservedActionCompletesWithInvalidAction : Obligations.ReservedActionCompletesWithInvalidAction := by
  intro action len addr s sn hon hop hreps
  refine ⟨congrArg Host.Outcome.next (fanCompute_noField hon hop hreps), fun rest hi haction => ?_⟩
  have hcheck : sn.checkErr = some .invalidAction := by simp [Snapshot.checkErr, hop, hreps, isNone_fanCode, haction]
  exact step_failedCheck hon hi hcheck

/-- Settles O23: the repeat count passes, the zone does not; at reset every bit of the mask is 1. -/
theorem zoneOutsideTheMaskIsRejected : Obligations.ZoneOutsideTheMaskIsRejected := by
  refine ⟨fun s sn rest hi hon hop hreps hzone => ?_, by decide⟩
  have hcheck : sn.checkErr = some .invalidZone := by
    simp [Snapshot.checkErr, hop, hreps, Snapshot.zoneAccepted, hzone]
  exact step_failedCheck hon hi hcheck

/-- Settles O24: no other check comes before the OP's. -/
theorem reservedOpCompletesWithIllegalOp : Obligations.ReservedOpCompletesWithIllegalOp := by
  intro s sn rest hi hon hop
  have hcheck : sn.checkErr = some .illegalOp := by
    rcases hop with hop | hop <;> simp [Snapshot.checkErr, hop]
  exact step_failedCheck hon hi hcheck

end Sys2Proof.Machine
end

section
/-! PROOFS. What a hardware reset leaves (R45, R290), and that an idle block waits (R291). -/

namespace Sys2Proof.Machine

/-- In IDLE no compute step is enabled and no request is pending, so with no turn given nothing happens (R276, R291). -/
theorem step_quiet_idle {s : State} (hidle : s.seq = .idle) (hi : s.inputs = []) : step s = .next s := by
  have hpending : s.seq ≠ .txWait := by simp [hidle]
  have hrunning : ∀ sn, s.seq = .compute → s.snap ≠ some sn := by simp [hidle]
  rw [step_quiet hi, quietTurn_other hpending, sequencerTurn_other hrunning]

theorem step_hardwareReset {s : State} {rest : List Turn} (hi : s.inputs = .hardwareReset :: rest) :
    step s = .next (hardwareReset (s.setInputs rest)) :=
  step_turn hi

/-- After a hardware reset no byte of TXBUF has been written, so each reads as the next epoch's draw (R37, R45). -/
@[simp] theorem hardwareReset_txbufByte (s : State) (i : Nat) :
    (hardwareReset s).txbufByte i = Config.txbufAtReset (s.epoch + 1) i := rfl

/-- Settles O8: the values are those the reset state is defined with, and it is idle with no turn given. -/
theorem resetLeavesTheStatedValues : Obligations.ResetLeavesTheStatedValues :=
  ⟨rfl, rfl, rfl, rfl, rfl, rfl, rfl, rfl, rfl, rfl, rfl, step_quiet_idle rfl rfl⟩

/-- Settles O9: the turn leads to the reset state under the next epoch, the history and the remaining turns kept. -/
theorem hardwareResetForgetsTheOperation : Obligations.HardwareResetForgetsTheOperation := fun s rest hi =>
  ⟨hardwareReset (s.setInputs rest), step_hardwareReset hi,
    rfl, rfl, rfl, rfl, rfl, rfl, rfl, rfl, rfl, rfl, rfl, rfl,
    hardwareReset_txbufByte (s.setInputs rest), rfl, rfl⟩

end Sys2Proof.Machine
end
